-- ==== Sys2Proof/Word.lean ====
section
/-! DEFINITION. The two word types of the block: a byte of a buffer and a 32-bit host-visible register
(spec 00_scope.md R10, 10_state.md R29). -/

namespace Sys2Proof

/-- A byte: 8 bits, values 0..255 (R10). -/
abbrev Byte := BitVec 8

/-- A host-visible register word: 32 bits (R29). -/
abbrev Word := BitVec 32

end Sys2Proof
end

