-- ==== Sys2Proof/Machine/Work.lean ====
section
/-! DEFINITION. The plain data the machine's state is made of: error kinds, the engine's phases, Huffman tables,
working registers, match-finder tables, scanline buffers, inspection records, the host's pending actions and the
implementation parameters. No computation stands here. -/

namespace Sys2Proof.Machine

/-- A byte buffer: (index, byte) pairs, indices strictly rising (`Memory.wf`); an index that is not listed has no
byte the model knows (R53, R54, 93 U2, U3). -/
abbrev Memory := List Host.Cell

/-- The twenty error kinds of 60_exceptions.md R371, in the order of their ERRKIND index 1..20. -/
inductive ErrKind where
  | unexpectedEnd
  | invalidBlock
  | storedMismatch
  | invalidTree
  | invalidSymbol
  | badDistance
  | badAdler
  | badZlibHeader
  | invalidWindowSize
  | powerOfTwoRequired
  | badConfig
  | invalidFilterType
  | lengthMismatch
  | unsupportedColorType
  | unsupportedBitDepth
  | invalidColorMode
  | outOfCapacity
  | badCommand
  | invalidPaeth
  | badCrc
  deriving DecidableEq, Repr, Inhabited

/-- What the engine decodes next while a decompress or unfilter command is running: one constructor per format of
30_encoding.md R90 that is read from IN (CMDW comes from the host). -/
inductive Phase where
  | zhdr
  | blk
  | stored
  | dynhdr
  | clsym
  | llsym
  | dsym
  | trailer
  | scanline
  deriving DecidableEq, Repr, Inhabited

/-- STATUS.STATE (10_state.md R25); BUSY carries what the engine decodes next. -/
inductive RunState where
  | idle
  | busy (p : Phase)
  | done
  | error
  deriving DecidableEq, Repr, Inhabited

/-- Which command the stream elements belong to: INFLATE (no framing), ZLIB_DECOMPRESS, or ZLIB_INFO (zlib framing
with the inspection mode of 43_inflate.md R250 on). -/
inductive Framing where
  | raw
  | zlib
  | inspect
  deriving DecidableEq, Repr, Inhabited

/-- One item of an LZ77 symbol stream (42_lz77_matchfinder.md R191): `LIT b` or `MATCH len dist`. -/
inductive LzItem where
  | lit (b : Byte)
  | copy (len dist : Nat)
  deriving DecidableEq, Repr, Inhabited

/-- One code-length symbol with its repeat count (30_encoding.md R117): `CLEN c`, `CREP k`, `CZERO k`. -/
inductive ClItem where
  | clen (c : Nat)
  | crep (k : Nat)
  | czero (k : Nat)
  deriving DecidableEq, Repr, Inhabited

/-- A Huffman table (10_state.md R44): the length limit `T.L`, `T.len[s]` and `T.code[s]`; `T.n` is the length of
`len`. -/
structure HuffTable where
  limit : Nat
  len   : List Nat
  code  : List Nat
  deriving DecidableEq, Repr, Inhabited

/-- A ZlibBlockInfo record (43_inflate.md R250). -/
structure BlockInfo where
  btype             : Nat
  compressedBits    : Nat
  uncompressedBytes : Nat
  treeBits          : Nat
  hlit              : Nat
  hdist             : Nat
  hclen             : Nat
  clLengths         : List Nat
  llLengths         : List Nat
  dLengths          : List Nat
  symbols           : List LzItem
  deriving DecidableEq, Repr, Inhabited

/-- The bit reader (10_state.md R22, 40_bitio_checksums.md R130): the cursor BITPOS and the active input, which is
the `size` bytes of IN that start at index `base`. -/
structure Reader where
  bitpos : Nat
  base   : Nat
  size   : Nat
  deriving DecidableEq, Repr, Inhabited

/-- The working registers of 10_state.md R23, each with the width given there. -/
structure Regs where
  bfinal    : BitVec 1
  btype     : BitVec 2
  len       : BitVec 16
  nlen      : BitVec 16
  hlit      : BitVec 9
  hdist     : BitVec 6
  hclen     : BitVec 5
  cli       : BitVec 9
  sym       : BitVec 9
  length    : BitVec 9
  dsym      : BitVec 5
  dist      : BitVec 16
  s1        : BitVec 32
  s2        : BitVec 32
  f         : BitVec 8
  row       : BitVec 31
  pass      : BitVec 3
  linebytes : BitVec 34
  bytewidth : BitVec 4
  deriving DecidableEq, Repr, Inhabited

/-- The decoder's tables (10_state.md R44, R45): LL, D, CL and the code-length sequence LENS. `lens` lists the
entries LENS[0..CLI) that have been written; the entries from CLI on are undefined and are not listed. -/
structure Tables where
  ll   : HuffTable
  d    : HuffTable
  cl   : HuffTable
  lens : List Nat
  deriving DecidableEq, Repr, Inhabited

/-- The compressor's working state (10_state.md R46, R47, R48): HEAD and PREV as (key, position) pairs, newest
first; SYMS, the frequency counters and the code lengths of the current block; and the bits written so far
(written bit `k` is entry `k`; WBITS is the number of entries, W the bytes they pack into). -/
structure Encoder where
  head   : List (Nat × Nat)
  prev   : List (Nat × Nat)
  syms   : List LzItem
  freqLL : List Nat
  freqD  : List Nat
  freqCL : List Nat
  llLen  : List Nat
  dLen   : List Nat
  clLen  : List Nat
  writer : List Bool
  deriving DecidableEq, Repr, Inhabited

/-- The filter unit's line state (10_state.md R49) and the two loop counters `pos` and `line` of 45_filter.md
R321: PRIOR, CUR and the five trial lines TRY[0..5). -/
structure LineState where
  prior : List Byte
  cur   : List Byte
  trial : List (List Byte)
  pos   : Nat
  line  : Nat
  deriving DecidableEq, Repr, Inhabited

/-- What the inspection mode of 43_inflate.md R250 has seen of the block being decoded: BITPOS and OUT_LEN before
its header, its tree bits, and its symbols so far, newest first. -/
structure Inspect where
  startBit : Nat
  startOut : Nat
  treeBits : Nat
  symsRev  : List LzItem
  deriving DecidableEq, Repr, Inhabited

/-- All working state of 10_state.md R22, R23, R44 to R49: undefined after reset and at the start of a command
(R43, R52). -/
structure Work where
  rd      : Reader
  framing : Framing
  regs    : Regs
  tabs    : Tables
  enc     : Encoder
  line    : LineState
  insp    : Inspect
  deriving DecidableEq, Repr, Inhabited

/-- How one block of a compressed stream is written: the number of input bytes it covers, its type, its symbol
stream and, for a dynamic block, everything its header transmits (44_deflate.md R262 to R274). -/
structure BlockPlan where
  len     : Nat
  btype   : Nat
  syms    : List LzItem
  hlit    : Nat
  hdist   : Nat
  hclen   : Nat
  llLen   : List Nat
  dLen    : List Nat
  clLen   : List Nat
  clItems : List ClItem
  deriving DecidableEq, Repr, Inhabited

/-- An open parameter of 92_eei_decisions.md section 2 that is a function: at the spec's reference value, or left open
within what that section asks of it (an opaque constant of Config). -/
inductive Choice where
  | reference
  | free
  deriving DecidableEq, Repr, Inhabited

/-- The implementation parameters of 00_scope.md R8 that are open: the three capacities (at most 2^31 - 1, hence 31
bits), BLOCK_SIZE, MAX_CHAIN_LENGTH, HASH, ENTROPY_ARITH, and which conforming compressed stream DEFLATE writes
(93 U12). They are part of State so that a statement about every state holds for every value of them; no step
changes them. R8 asks BLOCK_SIZE and MAX_CHAIN_LENGTH to be at least 1, which the type does not: a `blockSize` of 0 acts
as 1, and with a `maxChain` of 0 a search examines no candidate and finds no match (DESIGN CHOICE, log entry 4). -/
structure Params where
  inCap      : BitVec 31
  outCap     : BitVec 31
  auxCap     : BitVec 31
  blockSize  : Nat
  maxChain   : Nat
  hash       : Choice
  entropy    : Choice
  compressor : Choice
  deriving DecidableEq, Repr, Inhabited

/-- One action of the host on the block (10_state.md R20, 46_commands.md R340). -/
inductive HostOp where
  /-- write a 32-bit word to the register at a byte offset (R29); offset 0 is CMD -/
  | writeReg (off : Nat) (v : Word)
  /-- read the 32-bit register at a byte offset (R29) -/
  | readReg (off : Nat)
  /-- put a byte into IN -/
  | writeIn (i : Nat) (b : Byte)
  /-- put a byte into AUX -/
  | writeAux (i : Nat) (b : Byte)
  /-- read a byte of OUT -/
  | readOut (i : Nat)
  /-- let the engine decode one stream element -/
  | tick
  /-- wait until STATE is not BUSY (R340 item 3) -/
  | poll
  /-- the hardware reset (70_reset_and_hazards.md R410, R411) -/
  | reset
  deriving DecidableEq, Repr, Inhabited

end Sys2Proof.Machine
end

