-- ==== Sys2Proof/Config.lean ====
section
/-! DEFINITION. What is fixed for the machine: the constants of spec 00_scope.md R8, and the values the spec leaves
open, each an opaque constant without a body, so that no proof can see what it is. -/

namespace Sys2Proof.Config

open Sys2Proof.Machine

/-- WINDOW_MAX: the size of the history buffer and the largest match distance (R8). -/
def windowMax : Nat := 32768

/-- MIN_MATCH (R8, R192). -/
def minMatch : Nat := 3

/-- MAX_MATCH (R8, R192). -/
def maxMatch : Nat := 258

/-- MAXLEN_LL, the longest literal/length code (R8, R161). -/
def maxLenLL : Nat := 15

/-- MAXLEN_D, the longest distance code (R8, R161). -/
def maxLenD : Nat := 15

/-- MAXLEN_CL, the longest code-length code (R8, R161). -/
def maxLenCL : Nat := 7

/-- NUM_LL (R8). -/
def numLL : Nat := 288

/-- NUM_D (R8). -/
def numD : Nat := 32

/-- NUM_CL (R8). -/
def numCL : Nat := 19

/-- ADLER_MOD (R8, R146). -/
def adlerMod : Nat := 65521

/-- CRC_POLY in reflected form (R8, R141). -/
def crcPoly : Word := 0xEDB88320#32

/-- The working state a command starts with: undefined (R43, R52, 93 U3). -/
opaque freeWork : Nat → Work

/-- What a host read returns where the spec leaves it unspecified (R421, 93 U1, U2). -/
opaque freeWord : Nat → Word

/-- ERRCODE_OF of a kind the source gives no number for (R372, 93 U16), as a number that `openErrCode` maps onto the
codes the rule allows. -/
opaque errNumber : ErrKind → Nat

/-- HASH as an arbitrary function of three bytes (R195, 92 section 2). -/
opaque freeHash : Byte → Byte → Byte → Nat

/-- BRUTE_SIZE: a function from byte sequences to naturals (R316, 93 U15). -/
opaque bruteSize : List Byte → Nat

/-- The entropy of a histogram as an arithmetic that is not exact evaluates it, as a number that orders its results
(R315, 93 U14); used only where it meets 92 section 2's condition on ENTROPY_ARITH (log entry 14). -/
opaque freeEntropy : List Nat → Nat

/-- The error of that arithmetic on lines of `n` bytes, in bits: `(a, b)` stands for `a / (b + 1)` (92 section 2). -/
opaque freeEntropyError : Nat → Nat × Nat

/-- The block plans of an arbitrary conforming compressor (R260, 93 U12, U13): used only where they meet the
contract. -/
opaque freePlans : Nat → List Byte → List BlockPlan

end Sys2Proof.Config
end

