-- ==== Sys2Proof/Machine/State.lean ====
section
/-! DEFINITION. The machine's state: everything 10_state.md gives the block, and the model's own fields (the
implementation parameters, the host's pending actions, the last word the host read, the counter of free values);
the reasons a step can stop; the state after reset; the result of an operation inside a step. -/

namespace Sys2Proof.Machine

/-- Why the machine stops. -/
inductive Fault where
  /-- A host action names a buffer index at or beyond the buffer's capacity, a byte that does not exist
  (10_state.md R41, 60_exceptions.md R385). Raised by the host port's writeIn, writeAux and readOut. Safe: the
  model stops where the platform would do something the spec does not describe. -/
  | noSuchByte
  deriving DecidableEq, Repr

/-- Why the model has no next state. -/
inductive Refusal where
  /-- An instruction without a meaning. Raised by no arm. Safe. -/
  | notModelled (mnemonic : String)
  /-- A command needs a byte of IN below IN_LEN, or of AUX below AUX_LEN, that the host never wrote: R54 says a
  model should refuse that launch. Raised wherever such a byte would be read. Safe. -/
  | unwrittenByte
  /-- A CMD write with IN_LEN > IN_CAP or AUX_LEN > AUX_CAP (R41, R54, R385, 93 U4: refuse). Raised by every
  command. Safe. -/
  | launchBeyondCapacity
  /-- A host write to IN or AUX while STATE = BUSY (70_reset_and_hazards.md R421: a model should refuse such
  traces). Raised by the host port. Safe. -/
  | hostRace
  /-- A table gave a symbol number that no row of the format has. Raised by the fetch, in no state that a run
  reaches (a table has at most 288, 32 or 19 symbols). Safe. -/
  | noElement
  deriving DecidableEq, Repr

/-- The state of the block. -/
structure State where
  /-- STATUS.STATE (R25) and, while BUSY, what the engine decodes next -/
  run        : RunState
  /-- ERRKIND (R26): the kind of the last command's error, none for index 0 -/
  errKind    : Option ErrKind
  /-- ERRCODE (R26) -/
  errCode    : Word
  /-- IN_LEN (R28), bits 30:0 -/
  inLen      : BitVec 31
  /-- OUT_LEN (R28), bits 30:0 -/
  outLen     : BitVec 31
  /-- AUX_LEN (R28), bits 30:0 -/
  auxLen     : BitVec 31
  /-- CFG_INFLATE (R30), bit 0 IGNORE_ADLER32 -/
  cfgInflate : BitVec 1
  /-- CFG_DEFLATE (R31), bits 3:0 -/
  cfgDeflate : BitVec 4
  /-- WINDOWSIZE (R32), bits 16:0 -/
  windowSize : BitVec 17
  /-- MINMATCH (R33), bits 8:0 -/
  minMatch   : BitVec 9
  /-- NICEMATCH (R34), bits 8:0 -/
  niceMatch  : BitVec 9
  /-- CFG_FILTER (R35), bits 12:0 -/
  cfgFilter  : BitVec 13
  /-- WIDTH (R36), bits 30:0 -/
  width      : BitVec 31
  /-- HEIGHT (R36), bits 30:0 -/
  height     : BitVec 31
  /-- CRC_REG (R37); CRC_VALUE is its complement -/
  crcReg     : Word
  /-- ADLER_S1 (R38), the low half of ADLER_VALUE -/
  adlerS1    : BitVec 16
  /-- ADLER_S2 (R38), the high half of ADLER_VALUE -/
  adlerS2    : BitVec 16
  /-- the buffer IN (R41) -/
  inBuf      : Memory
  /-- the buffer OUT (R41); its last 32768 valid bytes are the history (R42) -/
  outBuf     : Memory
  /-- the buffer AUX (R41) -/
  auxBuf     : Memory
  /-- the inspection trace INFO (R50); empty after reset, where R53 leaves it unspecified (DESIGN CHOICE, log entry 1) -/
  info       : List BlockInfo
  /-- the working state (R22, R23, R44 to R49) -/
  work       : Work
  /-- the model's own: the open implementation parameters (R8) -/
  params     : Params
  /-- the model's own: what the host does next, first action first (R20) -/
  host       : List HostOp
  /-- the model's own: the word the host's last read returned -/
  hostData   : Word
  /-- the model's own: how many free values have been drawn -/
  freeCtr    : Nat
  deriving DecidableEq, Repr

/-- The outcome of an operation inside a step: a value and the state after it, an error the rule raises (R380)
with the state the raise finds, or a refusal. -/
inductive Res (α : Type) where
  | ok (a : α) (s : State)
  | raise (k : ErrKind) (s : State)
  | refuse (r : Refusal)
  deriving DecidableEq, Repr

/-- Sequencing: nothing after a raise or a refusal executes (R12). -/
def Res.bind {α β : Type} (x : Res α) (f : α → State → Res β) : Res β :=
  match x with
  | .ok a s => f a s
  | .raise k s => .raise k s
  | .refuse r => .refuse r

namespace State

/-- STATE = BUSY (R25). -/
def isBusy (s : State) : Bool :=
  match s.run with
  | .busy _ => true
  | .idle => false
  | .done => false
  | .error => false

/-- Set STATE. -/
def setRun (s : State) (r : RunState) : State := { s with run := r }

/-- Set the bit reader. -/
def setReader (s : State) (r : Reader) : State := { s with work := { s.work with rd := r } }

/-- `BITPOS <- n`. -/
def setBitpos (s : State) (n : Nat) : State := s.setReader { s.work.rd with bitpos := n }

/-- Set the working registers of R23. -/
def setRegs (s : State) (r : Regs) : State := { s with work := { s.work with regs := r } }

/-- Set the decoder's tables. -/
def setTabs (s : State) (t : Tables) : State := { s with work := { s.work with tabs := t } }

/-- Set the compressor's working state. -/
def setEnc (s : State) (e : Encoder) : State := { s with work := { s.work with enc := e } }

/-- Set the filter unit's line state. -/
def setLine (s : State) (l : LineState) : State := { s with work := { s.work with line := l } }

/-- Set the inspection state. -/
def setInsp (s : State) (i : Inspect) : State := { s with work := { s.work with insp := i } }

/-- Set the framing of the running command. -/
def setFraming (s : State) (f : Framing) : State := { s with work := { s.work with framing := f } }

/-- Set OUT and OUT_LEN. -/
def setOut (s : State) (m : Memory) (n : BitVec 31) : State := { s with outBuf := m, outLen := n }

/-- Set INFO. -/
def setInfo (s : State) (l : List BlockInfo) : State := { s with info := l }

/-- Set CRC_REG. -/
def setCrc (s : State) (r : Word) : State := { s with crcReg := r }

/-- Set the host's running Adler-32 pair. -/
def setAdler (s : State) (s1 s2 : BitVec 16) : State := { s with adlerS1 := s1, adlerS2 := s2 }

/-- Set the host's pending actions. -/
def setHost (s : State) (l : List HostOp) : State := { s with host := l }

end State

/-- A Huffman table of no symbols. -/
def HuffTable.empty : HuffTable := { limit := 0, len := [], code := [] }

/-- Working state with nothing in it: every register and counter zero, every table and list empty. -/
def Work.zero : Work :=
  { rd := { bitpos := 0, base := 0, size := 0 }
    framing := .raw
    regs :=
      { bfinal := 0, btype := 0, len := 0, nlen := 0, hlit := 0, hdist := 0, hclen := 0, cli := 0, sym := 0
        length := 0, dsym := 0, dist := 0, s1 := 0, s2 := 0, f := 0, row := 0, pass := 0, linebytes := 0
        bytewidth := 0 }
    tabs := { ll := .empty, d := .empty, cl := .empty, lens := [] }
    enc :=
      { head := [], prev := [], syms := [], freqLL := [], freqD := [], freqCL := [], llLen := [], dLen := []
        clLen := [], writer := [] }
    line := { prior := [], cur := [], trial := [], pos := 0, line := 0 }
    insp := { startBit := 0, startOut := 0, treeBits := 0, symsRev := [] } }

/-- The parameters' reference values of 92_eei_decisions.md section 2: capacities as large as a length register can
say (the spec's reference is unbounded), BLOCK_SIZE 65535, MAX_CHAIN_LENGTH 4096, HASH the identity, entropies
compared exactly, DEFLATE the reference algorithm (DESIGN CHOICE, log entry 4). -/
def Params.reference : Params :=
  { inCap := 0x7FFFFFFF#31, outCap := 0x7FFFFFFF#31, auxCap := 0x7FFFFFFF#31, blockSize := 65535, maxChain := 4096
    hash := .reference, entropy := .reference, compressor := .reference }

/-- The block right after reset (R53, R410, R412). The buffers list nothing: their contents are unspecified. The
working state and INFO, unspecified too, are all zero and empty here (DESIGN CHOICE, log entry 1); every command replaces
both before reading them (R52). -/
def State.reset : State :=
  { run := .idle
    errKind := none
    errCode := 0#32
    inLen := 0#31
    outLen := 0#31
    auxLen := 0#31
    cfgInflate := 0#1
    cfgDeflate := 0b1110#4
    windowSize := 2048#17
    minMatch := 3#9
    niceMatch := 128#9
    cfgFilter := 0x469#13
    width := 0#31
    height := 0#31
    crcReg := 0xFFFFFFFF#32
    adlerS1 := 1#16
    adlerS2 := 0#16
    inBuf := []
    outBuf := []
    auxBuf := []
    info := []
    work := .zero
    params := .reference
    host := []
    hostData := 0#32
    freeCtr := 0 }

end Sys2Proof.Machine
end

