-- ==== Sys2Proof/Machine/Memory.lean ====
section
/-! DEFINITION. The byte buffers IN, OUT and AUX (10_state.md R40, R41; 20_memory.md R60, R63): reading and writing one
byte, reading a run of bytes, and the canonical form. An index that is not listed has no byte: nothing the model
knows was ever put there. -/

namespace Sys2Proof.Machine

namespace Memory

/-- The byte at index `a`, if one was written (R60). -/
def read (m : Memory) (a : Nat) : Option Byte :=
  match m with
  | [] => none
  | (x, v) :: rest => if x = a then some v else read rest a

/-- Put byte `b` at index `a`, keeping the indices rising. -/
def write (m : Memory) (a : Nat) (b : Byte) : Memory :=
  match m with
  | [] => [(a, b)]
  | (x, v) :: rest =>
    if a < x then (a, b) :: (x, v) :: rest
    else if a = x then (a, b) :: rest
    else (x, v) :: write rest a b

/-- Every index of the list is above `lo`, and they rise strictly. -/
def above (lo : Nat) (m : Memory) : Bool :=
  match m with
  | [] => true
  | (x, _) :: rest => decide (lo < x) && above x rest

/-- The canonical form: indices strictly rising, so that equal buffers are equal lists. -/
def wf (m : Memory) : Bool :=
  match m with
  | [] => true
  | (x, _) :: rest => above x rest

/-- The bytes at `start`, `start + 1`, …, `n` of them, if every one was written. -/
def bytes (m : Memory) (start n : Nat) : Option (List Byte) :=
  match n with
  | 0 => some []
  | k + 1 =>
    match m.read start, bytes m (start + 1) k with
    | some b, some bs => some (b :: bs)
    | _, _ => none

/-- A buffer that holds the given bytes from index `start` on. -/
def ofBytes (start : Nat) (bs : List Byte) : Memory :=
  match bs with
  | [] => []
  | b :: rest => (start, b) :: ofBytes (start + 1) rest

end Memory

end Sys2Proof.Machine
end

