-- ==== Sys2Proof/Machine/Flags.lean ====
section
/-! DEFINITION. The status side of the block: the error-kind indices and codes (60_exceptions.md R371, R372), STATUS,
and the register map as the host reads and writes it (10_state.md R25 to R39). The block has no condition codes
(R24); its flags are BFINAL (a working register), STATUS.STATE and the configuration bits. -/

namespace Sys2Proof.Machine

/-- The ERRKIND index of a kind (R371). -/
def ErrKind.index (k : ErrKind) : Nat :=
  match k with
  | .unexpectedEnd => 1
  | .invalidBlock => 2
  | .storedMismatch => 3
  | .invalidTree => 4
  | .invalidSymbol => 5
  | .badDistance => 6
  | .badAdler => 7
  | .badZlibHeader => 8
  | .invalidWindowSize => 9
  | .powerOfTwoRequired => 10
  | .badConfig => 11
  | .invalidFilterType => 12
  | .lengthMismatch => 13
  | .unsupportedColorType => 14
  | .unsupportedBitDepth => 15
  | .invalidColorMode => 16
  | .outOfCapacity => 17
  | .badCommand => 18
  | .invalidPaeth => 19
  | .badCrc => 20

/-- The numbers a kind without a source code may have, in order: the nonzero 32-bit words other than 57, 58, 60 and 90
(R372). Every one of them is `openErrCode n` for some `n`. -/
def openErrCode (n : Nat) : Word :=
  let c1 := n % (2 ^ 32 - 5) + 1
  let c2 := if 57 ≤ c1 then c1 + 1 else c1
  let c3 := if 58 ≤ c2 then c2 + 1 else c2
  let c4 := if 60 ≤ c3 then c3 + 1 else c3
  BitVec.ofNat 32 (if 90 ≤ c4 then c4 + 1 else c4)

/-- ERRCODE_OF (R372): the source's four codes; any other kind has some nonzero code that is none of the four, the
same every time. -/
def errcodeOf (k : ErrKind) : Word :=
  match k with
  | .badCrc => 57#32
  | .badAdler => 58#32
  | .invalidWindowSize => 60#32
  | .powerOfTwoRequired => 90#32
  | .unexpectedEnd => openErrCode (Config.errNumber .unexpectedEnd)
  | .invalidBlock => openErrCode (Config.errNumber .invalidBlock)
  | .storedMismatch => openErrCode (Config.errNumber .storedMismatch)
  | .invalidTree => openErrCode (Config.errNumber .invalidTree)
  | .invalidSymbol => openErrCode (Config.errNumber .invalidSymbol)
  | .badDistance => openErrCode (Config.errNumber .badDistance)
  | .badZlibHeader => openErrCode (Config.errNumber .badZlibHeader)
  | .badConfig => openErrCode (Config.errNumber .badConfig)
  | .invalidFilterType => openErrCode (Config.errNumber .invalidFilterType)
  | .lengthMismatch => openErrCode (Config.errNumber .lengthMismatch)
  | .unsupportedColorType => openErrCode (Config.errNumber .unsupportedColorType)
  | .unsupportedBitDepth => openErrCode (Config.errNumber .unsupportedBitDepth)
  | .invalidColorMode => openErrCode (Config.errNumber .invalidColorMode)
  | .outOfCapacity => openErrCode (Config.errNumber .outOfCapacity)
  | .badCommand => openErrCode (Config.errNumber .badCommand)
  | .invalidPaeth => openErrCode (Config.errNumber .invalidPaeth)

/-- STATUS: STATE in bits 1:0, the rest zero (R25). -/
def State.statusWord (s : State) : Word :=
  match s.run with
  | .idle => 0#32
  | .busy _ => 1#32
  | .done => 2#32
  | .error => 3#32

/-- ERRKIND: the index in bits 7:0, 0 when the last command did not fail (R26). -/
def State.errkindWord (s : State) : Word :=
  match s.errKind with
  | none => 0#32
  | some k => BitVec.ofNat 32 k.index

/-- CRC_VALUE: CRC_REG with every bit inverted (R37). -/
def State.crcValue (s : State) : Word := s.crcReg ^^^ 0xFFFFFFFF#32

/-- ADLER_VALUE: `(S2 << 16) | S1` (R38). -/
def State.adlerValue (s : State) : Word := s.adlerS2 ++ s.adlerS1

/-- A result register as the host reads it: its value, or an unspecified one while STATE = BUSY (R421). -/
def State.resultWord (s : State) (v : Word) : Word :=
  if s.isBusy then Config.freeWord s.freeCtr else v

/-- The register at a byte offset as the host reads it (R29): CMD reads zero, reserved offsets and reserved bits
read zero (R39). -/
def State.readReg (s : State) (off : Nat) : Word :=
  if off = 0x04 then s.statusWord
  else if off = 0x08 then s.resultWord s.errkindWord
  else if off = 0x0C then s.resultWord s.errCode
  else if off = 0x10 then s.inLen.zeroExtend 32
  else if off = 0x14 then s.resultWord (s.outLen.zeroExtend 32)
  else if off = 0x18 then s.auxLen.zeroExtend 32
  else if off = 0x20 then s.cfgInflate.zeroExtend 32
  else if off = 0x24 then s.cfgDeflate.zeroExtend 32
  else if off = 0x28 then s.windowSize.zeroExtend 32
  else if off = 0x2C then s.minMatch.zeroExtend 32
  else if off = 0x30 then s.niceMatch.zeroExtend 32
  else if off = 0x34 then s.cfgFilter.zeroExtend 32
  else if off = 0x38 then s.width.zeroExtend 32
  else if off = 0x3C then s.height.zeroExtend 32
  else if off = 0x40 then s.resultWord s.crcReg
  else if off = 0x44 then s.resultWord s.crcValue
  else if off = 0x48 then s.resultWord s.adlerValue
  else 0#32

/-- A host write to a register other than CMD (R28 to R36): the implemented bits are stored unchanged, legal or not;
reserved bits, read-only registers and reserved offsets ignore it (R39), and while STATE = BUSY so does every
register (R420). -/
def State.writeReg (s : State) (off : Nat) (v : Word) : State :=
  if s.isBusy then s
  else if off = 0x10 then { s with inLen := v.extractLsb' 0 31 }
  else if off = 0x18 then { s with auxLen := v.extractLsb' 0 31 }
  else if off = 0x20 then { s with cfgInflate := v.extractLsb' 0 1 }
  else if off = 0x24 then { s with cfgDeflate := v.extractLsb' 0 4 }
  else if off = 0x28 then { s with windowSize := v.extractLsb' 0 17 }
  else if off = 0x2C then { s with minMatch := v.extractLsb' 0 9 }
  else if off = 0x30 then { s with niceMatch := v.extractLsb' 0 9 }
  else if off = 0x34 then { s with cfgFilter := v.extractLsb' 0 13 }
  else if off = 0x38 then { s with width := v.extractLsb' 0 31 }
  else if off = 0x3C then { s with height := v.extractLsb' 0 31 }
  else s

end Sys2Proof.Machine
end

