-- ==== Sys2Proof/Machine/Operands.lean ====
section
/-! DEFINITION. The operand forms: the constant tables of 30_encoding.md (ORDER, LBASE and LEXTRA, DBASE and DEXTRA,
the repeat codes), the mapping of a match to symbols (42_lz77_matchfinder.md R203), and the fields of the
configuration registers (10_state.md R30, R31, R35). -/

namespace Sys2Proof.Machine

/-- ORDER, the permuted order of the code-length code lengths (R104). -/
def clOrder : List Nat := [16, 17, 18, 0, 8, 7, 9, 6, 10, 5, 11, 4, 12, 3, 13, 2, 14, 1, 15]

/-- LBASE for the symbols 257..285 (R108). -/
def lbaseTable : List Nat :=
  [3, 4, 5, 6, 7, 8, 9, 10, 11, 13, 15, 17, 19, 23, 27, 31, 35, 43, 51, 59, 67, 83, 99, 115, 131, 163, 195, 227, 258]

/-- LEXTRA for the symbols 257..285 (R108). -/
def lextraTable : List Nat :=
  [0, 0, 0, 0, 0, 0, 0, 0, 1, 1, 1, 1, 2, 2, 2, 2, 3, 3, 3, 3, 4, 4, 4, 4, 5, 5, 5, 5, 0]

/-- DBASE for the symbols 0..29 (R109). -/
def dbaseTable : List Nat :=
  [1, 2, 3, 4, 5, 7, 9, 13, 17, 25, 33, 49, 65, 97, 129, 193, 257, 385, 513, 769, 1025, 1537, 2049, 3073, 4097, 6145,
   8193, 12289, 16385, 24577]

/-- DEXTRA for the symbols 0..29 (R109). -/
def dextraTable : List Nat :=
  [0, 0, 0, 0, 1, 1, 2, 2, 3, 3, 4, 4, 5, 5, 6, 6, 7, 7, 8, 8, 9, 9, 10, 10, 11, 11, 12, 12, 13, 13]

/-- LBASE[S] (R108). -/
def lbase (sym : Nat) : Nat := lbaseTable.getD (sym - 257) 0

/-- LEXTRA[S] (R108). -/
def lextra (sym : Nat) : Nat := lextraTable.getD (sym - 257) 0

/-- DBASE[d] (R109). -/
def dbase (sym : Nat) : Nat := dbaseTable.getD sym 0

/-- DEXTRA[d] (R109). -/
def dextra (sym : Nat) : Nat := dextraTable.getD sym 0

/-- `lsym(l)`: 285 for 258, otherwise the largest S in 257..284 with LBASE[S] ≤ l (R203). -/
def lsym (l : Nat) : Nat :=
  if l = 258 then 285
  else 256 + ((lbaseTable.take 28).filter (fun b => b ≤ l)).length

/-- `dsym(d)`: the largest c in 0..29 with DBASE[c] ≤ d (R203). -/
def dsym (d : Nat) : Nat := (dbaseTable.filter (fun b => b ≤ d)).length - 1

/-- The extra bits of a code-length symbol (R96). -/
def clExtra (sym : Nat) : Nat :=
  if sym = 16 then 2 else if sym = 17 then 3 else if sym = 18 then 7 else 0

/-- The window size a zlib header declares, `2^(CINFO+8)` (R91, R105): the meaning of the field, used by nothing
(R246). -/
def declaredWindow (cinfo : Nat) : Nat := 2 ^ (cinfo + 8)

namespace State

/-- CFG_INFLATE.IGNORE_ADLER32 (R30). -/
def ignoreAdler (s : State) : Bool := s.cfgInflate.getLsbD 0

/-- CFG_DEFLATE.BTYPE (R31). -/
def btypeLimit (s : State) : Nat := (s.cfgDeflate.extractLsb' 0 2).toNat

/-- CFG_DEFLATE.USE_LZ77 (R31). -/
def useLz77 (s : State) : Bool := s.cfgDeflate.getLsbD 2

/-- CFG_DEFLATE.LAZYMATCHING (R31). -/
def lazyMatching (s : State) : Bool := s.cfgDeflate.getLsbD 3

/-- CFG_FILTER.STRATEGY (R35). -/
def strategy (s : State) : Nat := (s.cfgFilter.extractLsb' 0 3).toNat

/-- CFG_FILTER.FILTER_PALETTE_ZERO (R35). -/
def filterPaletteZero (s : State) : Bool := s.cfgFilter.getLsbD 3

/-- CFG_FILTER.COLORTYPE (R35). -/
def colorType (s : State) : Nat := (s.cfgFilter.extractLsb' 4 3).toNat

/-- CFG_FILTER.BITDEPTH (R35). -/
def bitDepth (s : State) : Nat := (s.cfgFilter.extractLsb' 7 5).toNat

/-- CFG_FILTER.INTERLACE (R35). -/
def interlace (s : State) : Bool := s.cfgFilter.getLsbD 12

end State

end Sys2Proof.Machine
end

