-- ==== Sys2Proof/Machine/Ops.lean ====
section
/-! DEFINITION. The named operations over the state that the meanings are written in: raising an error (the block's
only exception, 60_exceptions.md R380) and leaving the ERROR state again, starting and completing a command
(46_commands.md R341), the bit reader (40_bitio_checksums.md R130 to R135), reading IN, and appending to and reading
back OUT (20_memory.md R60 to R64). -/

namespace Sys2Proof.Machine

/-! ### Errors and the life of a command -/

/-- `raise K`, the block's trap entry (R380): no partial output, INFO empty, ERRKIND and ERRCODE say which kind,
STATE = ERROR. Nothing is saved and control goes nowhere. The bytes OUT held become unspecified (93 U1): none is
listed. Everything else keeps its value. -/
def raiseError (k : ErrKind) (s : State) : State :=
  { s with
    outLen := 0#31
    outBuf := []
    info := []
    errKind := some k
    errCode := errcodeOf k
    run := .error }

/-- A command ends without error (R341): ERRKIND and ERRCODE are 0, STATE = DONE. -/
def complete (s : State) : State := { s with errKind := none, errCode := 0#32, run := .done }

/-- What every accepted CMD write does first (R341, R52), and the only way out of the ERROR state (R382): OUT_LEN is
0 and the history empty, INFO is empty, BITPOS is 0, the match-finder tables are empty, S1 = 1 and S2 = 0; every
other working register and table is undefined, a free value. -/
def startCommand (s : State) : State :=
  let w := Config.freeWork s.freeCtr
  { s with
    outLen := 0#31
    outBuf := []
    info := []
    freeCtr := s.freeCtr + 1
    work :=
      { w with
        rd := { bitpos := 0, base := 0, size := 0 }
        regs := { w.regs with s1 := 1#32, s2 := 0#32 }
        enc := { w.enc with head := [], prev := [] } } }

namespace Res

/-- An operation's outcome as the outcome of the step: an error is a next state, the one `raise` leaves (R380). -/
def finish (x : Res Unit) : Host.Outcome State Fault Refusal :=
  match x with
  | .ok _ s => .next s
  | .raise k s => .next (raiseError k s)
  | .refuse r => .refused r

end Res

/-- A launch the spec is about: IN_LEN ≤ IN_CAP and AUX_LEN ≤ AUX_CAP (R41). -/
def State.launchOk (s : State) : Bool :=
  decide (s.inLen ≤ s.params.inCap) && decide (s.auxLen ≤ s.params.auxCap)

/-- A CMD write (R27, R341): ignored while STATE = BUSY (R420), refused when the launch is outside the spec (R54),
otherwise the command's rule runs on a clean working state. -/
def onCommand (rule : State → Res Unit) (s : State) : Host.Outcome State Fault Refusal :=
  if s.isBusy then .next s
  else if s.launchOk then (rule (startCommand s)).finish
  else .refused .launchBeyondCapacity

/-! ### Reading IN -/

/-- `IN[i]` for an index below IN_LEN (R60); past the end the error `k` of the rule that reads. -/
def readIn (k : ErrKind) (i : Nat) (s : State) : Res Byte :=
  if s.inLen.toNat ≤ i then .raise k s
  else
    match s.inBuf.read i with
    | some b => .ok b s
    | none => .refuse .unwrittenByte

/-- `IN[i .. i + n)`, within IN_LEN (R60); past the end the error `k` of the rule that reads. -/
def readInBytes (k : ErrKind) (i n : Nat) (s : State) : Res (List Byte) :=
  if s.inLen.toNat < i + n then .raise k s
  else
    match s.inBuf.bytes i n with
    | some bs => .ok bs s
    | none => .refuse .unwrittenByte

/-- All of `IN[0..IN_LEN)`, the operand of a command. -/
def readAllIn (s : State) : Res (List Byte) :=
  match s.inBuf.bytes 0 s.inLen.toNat with
  | some bs => .ok bs s
  | none => .refuse .unwrittenByte

/-! ### The bit reader -/

/-- `streambit(k)` of the active input: bit `k mod 8` of its byte `⌊k/8⌋` (R11, R130). -/
def streamBit (s : State) (k : Nat) : Option Bool :=
  (s.inBuf.read (s.work.rd.base + k / 8)).map (fun b => b.getLsbD (k % 8))

/-- The `n`-bit field at stream position `k`, first bit least significant (R11). -/
def streamField (s : State) (k n : Nat) : Option Nat :=
  match n with
  | 0 => some 0
  | m + 1 =>
    match streamBit s k, streamField s (k + 1) m with
    | some b, some v => some (b.toNat + 2 * v)
    | _, _ => none

/-- The number of bits of the active input. -/
def State.inputBits (s : State) : Nat := 8 * s.work.rd.size

/-- `read_bits(n)` (R131): the field at BITPOS, BITPOS advanced by `n`; UnexpectedEnd, with nothing consumed, when
fewer than `n` bits remain. -/
def readBits (n : Nat) (s : State) : Res Nat :=
  if s.inputBits < s.work.rd.bitpos + n then .raise .unexpectedEnd s
  else
    match streamField s s.work.rd.bitpos n with
    | some v => .ok v (s.setBitpos (s.work.rd.bitpos + n))
    | none => .refuse .unwrittenByte

/-- The field `peek_bits` looks at: as `streamField`, with every bit at or beyond the end of the active input 0. -/
def peekField (s : State) (k n : Nat) : Option Nat :=
  match n with
  | 0 => some 0
  | m + 1 =>
    match (if s.inputBits ≤ k then some false else streamBit s k), peekField s (k + 1) m with
    | some b, some v => some (b.toNat + 2 * v)
    | _, _ => none

/-- `peek_bits(n)` (R132): never an error, BITPOS does not move. No rule uses it. -/
def peekBits (n : Nat) (s : State) : Res Nat :=
  match peekField s s.work.rd.bitpos n with
  | some v => .ok v s
  | none => .refuse .unwrittenByte

/-- `advance(n)` (R133). -/
def advance (n : Nat) (s : State) : Res Unit :=
  if s.inputBits < s.work.rd.bitpos + n then .raise .unexpectedEnd s
  else .ok () (s.setBitpos (s.work.rd.bitpos + n))

/-- `byte_align()` (R134): BITPOS rounded up to a multiple of 8. -/
def byteAlign (s : State) : State := s.setBitpos (8 * ((s.work.rd.bitpos + 7) / 8))

/-- `remaining_bits()` (R135). -/
def remainingBits (s : State) : Nat := s.inputBits - s.work.rd.bitpos

/-! ### OUT -/

/-- `OUT.append(b)` (R63): OutOfCapacity when OUT is full, otherwise `OUT[OUT_LEN] <- b` and OUT_LEN grows by one. -/
def appendOut (b : Byte) (s : State) : Res Unit :=
  if s.params.outCap ≤ s.outLen then .raise .outOfCapacity s
  else .ok () (s.setOut (s.outBuf.write s.outLen.toNat b) (s.outLen + 1#31))

/-- Append bytes in order (R63). -/
def appendAll (bs : List Byte) (s : State) : Res Unit :=
  match bs with
  | [] => .ok () s
  | b :: rest => (appendOut b s).bind fun _ s' => appendAll rest s'

/-- The history read `OUT[OUT_LEN - dist]` (R64). -/
def readHistory (dist : Nat) (s : State) : Res Byte :=
  match s.outBuf.read (s.outLen.toNat - dist) with
  | some b => .ok b s
  | none => .refuse .unwrittenByte

/-- All of `OUT[0..OUT_LEN)`. -/
def readAllOut (s : State) : Res (List Byte) :=
  match s.outBuf.bytes 0 s.outLen.toNat with
  | some bs => .ok bs s
  | none => .refuse .unwrittenByte

end Sys2Proof.Machine
end

