-- ==== Sys2Proof/Machine/Checksum.lean ====
section
/-! DEFINITION. CRC-32 and Adler-32 (40_bitio_checksums.md R140 to R150). -/

namespace Sys2Proof.Machine

/-- One shift of the CRC register (R141). -/
def crcShift (r : Word) : Word :=
  if r.getLsbD 0 then (r >>> 1) ^^^ Config.crcPoly else r >>> 1

/-- `crc_step(r, b)` (R141): the byte enters at the low end, then eight shifts. -/
def crcStep (r : Word) (b : Byte) : Word :=
  crcShift (crcShift (crcShift (crcShift (crcShift (crcShift (crcShift (crcShift (r ^^^ b.zeroExtend 32))))))))

/-- The register after a byte sequence (R143). -/
def crcRun (r : Word) (bs : List Byte) : Word :=
  match bs with
  | [] => r
  | b :: rest => crcRun (crcStep r b) rest

/-- `crc32(X)` (R144): start 0xFFFFFFFF, final inversion. -/
def crc32 (bs : List Byte) : Word := crcRun 0xFFFFFFFF#32 bs ^^^ 0xFFFFFFFF#32

/-- The two Adler-32 sums after a byte sequence, reduced at every byte (R146). -/
def adlerRun (s1 s2 : Nat) (bs : List Byte) : Nat × Nat :=
  match bs with
  | [] => (s1, s2)
  | b :: rest =>
    let t1 := (s1 + b.toNat) % Config.adlerMod
    adlerRun t1 ((s2 + t1) % Config.adlerMod) rest

/-- `adler_update(a, X)` (R146): s1 is the low half of `a`, s2 the high half, packed as `(s2 << 16) | s1`. -/
def adlerUpdate (a : Word) (bs : List Byte) : Word :=
  let p := adlerRun (a.extractLsb' 0 16).toNat (a.extractLsb' 16 16).toNat bs
  BitVec.ofNat 16 p.2 ++ BitVec.ofNat 16 p.1

/-- `adler32(X)` (R146). -/
def adler32 (bs : List Byte) : Word := adlerUpdate 1#32 bs

end Sys2Proof.Machine
end

