-- ==== Sys2Proof/Machine/Huffman.lean ====
section
/-! DEFINITION. Huffman tables (41_huffman.md): canonical code assignment, the Kraft check, the symbol decoder, and the
length-limited code construction with its contract. -/

namespace Sys2Proof.Machine

/-! ### Canonical codes -/

/-- A list filled up with zeros to `n` entries. -/
def padTo (n : Nat) (l : List Nat) : List Nat := l ++ List.replicate (n - l.length) 0

/-- The used symbols with their lengths, sorted by (length, symbol): `U` of R162. -/
def usedSymbols (limit : Nat) (len : List Nat) : List (Nat × Nat) :=
  (List.range limit).flatMap fun l =>
    (len.zipIdx.filter (fun p => p.1 = l + 1)).map (fun p => (p.2, p.1))

/-- Consecutive codes, shifted left by the increase in length (R162). `l0` is the length of the symbol before and `c`
its code plus one (both 0 before the first symbol). -/
def assignFrom (l0 c : Nat) (us : List (Nat × Nat)) : List (Nat × Nat) :=
  match us with
  | [] => []
  | (s, l) :: rest => (s, c <<< (l - l0)) :: assignFrom l (c <<< (l - l0) + 1) rest

/-- `build_codes(T)` (R162): the table of the given lengths. The code of an unused symbol is not defined by the rule
and nothing reads it; it is written 0. -/
def buildCodes (limit : Nat) (len : List Nat) : HuffTable :=
  let codes := assignFrom 0 0 (usedSymbols limit len)
  { limit := limit
    len := len
    code := (List.range len.length).map fun s => (codes.lookup s).getD 0 }

/-- `K`, the sum over the used symbols of 2^(L - len) (R163). -/
def kraftSum (limit : Nat) (len : List Nat) : Nat :=
  ((len.filter (fun l => l ≠ 0)).map (fun l => 2 ^ (limit - l))).sum

/-- Lengths that over-subscribe the code space (R163). -/
def overSubscribed (limit : Nat) (len : List Nat) : Bool := decide (2 ^ limit < kraftSum limit len)

/-- The literal/length code lengths of BTYPE 1 (R111). -/
def fixedLLLen : List Nat :=
  List.replicate 144 8 ++ List.replicate 112 9 ++ List.replicate 24 7 ++ List.replicate 8 8

/-- The distance code lengths of BTYPE 1 (R111). -/
def fixedDLen : List Nat := List.replicate 32 5

/-- The fixed literal/length table, its code words as R112 lists them (they are what `buildCodes` assigns:
`Laws.fixedLL_eq_buildCodes`). -/
def fixedLL : HuffTable :=
  { limit := Config.maxLenLL
    len := fixedLLLen
    code := (List.range 144).map (fun s => 0x30 + s) ++ (List.range 112).map (fun s => 0x190 + s)
      ++ List.range 24 ++ (List.range 8).map (fun s => 0xC0 + s) }

/-- The fixed distance table (R112): the code of `d` is `d`. -/
def fixedD : HuffTable := { limit := Config.maxLenD, len := fixedDLen, code := List.range 32 }

/-! ### The symbol decoder -/

/-- The symbol, from `s` on, whose code word is the `n`-bit number `c`. -/
def findSymbol (n c s : Nat) (len code : List Nat) : Option Nat :=
  match len, code with
  | l :: len', k :: code' => if l = n ∧ k = c then some s else findSymbol n c (s + 1) len' code'
  | _, _ => none

/-- The symbol of table `T` whose code word is the `n`-bit number `c` (R165). -/
def HuffTable.find (T : HuffTable) (n c : Nat) : Option Nat := findSymbol n c 0 T.len T.code

/-- `m`, the longest code length of the table; 0 when no symbol is used (R165). -/
def HuffTable.maxLen (T : HuffTable) : Nat := T.len.foldl max 0

/-- The loop of R165, with `fuel` lengths still to try after `n` bits that read `c`. -/
def decodeFrom (T : HuffTable) (fuel n c : Nat) (s : State) : Res Nat :=
  match fuel with
  | 0 => .raise .invalidSymbol s
  | k + 1 =>
    (readBits 1 s).bind fun b s' =>
      match T.find (n + 1) (2 * c + b) with
      | some sym => .ok sym s'
      | none => decodeFrom T k (n + 1) (2 * c + b) s'

/-- `decode_symbol(T)` (R165 to R167): bit by bit, first bit most significant; UnexpectedEnd when the input ends
before a match, InvalidSymbol when the longest length has been read without one (at once for an empty table). -/
def decodeSymbol (T : HuffTable) (s : State) : Res Nat := decodeFrom T T.maxLen 0 0 s

/-! ### Length-limited code lengths -/

/-- An item of the package-merge lists (R172): a weight and a multiset of symbols. -/
structure Package where
  weight  : Nat
  members : List Nat
  deriving DecidableEq, Repr

/-- Insert a leaf behind the leaves of the same or a smaller weight. -/
def insertLeaf (x : Package) (l : List Package) : List Package :=
  match l with
  | [] => [x]
  | y :: ys => if x.weight < y.weight then x :: y :: ys else y :: insertLeaf x ys

/-- The leaves: the symbols of nonzero frequency sorted by (frequency, symbol) (R172). -/
def leaves (f : List Nat) : List Package :=
  (f.zipIdx.filter (fun p => p.1 ≠ 0)).foldl (fun l p => insertLeaf { weight := p.1, members := [p.2] } l) []

/-- The packages of one level: consecutive pairs, a trailing unpaired item dropped (R172). -/
def pairUp (l : List Package) : List Package :=
  match l with
  | a :: b :: rest => { weight := a.weight + b.weight, members := a.members ++ b.members } :: pairUp rest
  | _ => []

/-- One leaf against the packages: packages of smaller weight go first (R172). -/
def mergeLeaf (x : Package) (rest : List Package → List Package) (ps : List Package) : List Package :=
  match ps with
  | [] => x :: rest []
  | p :: ps' => if x.weight ≤ p.weight then x :: rest (p :: ps') else p :: mergeLeaf x rest ps'

/-- Leaves and packages merged by ascending weight, a leaf first on equal weight (R172). -/
def mergeLevel (ls ps : List Package) : List Package :=
  match ls with
  | [] => ps
  | x :: xs => mergeLeaf x (mergeLevel xs) ps

/-- The list after `n` further levels (R172). -/
def packageLevels (ls : List Package) (n : Nat) : List Package :=
  match n with
  | 0 => ls
  | k + 1 => mergeLevel ls (pairUp (packageLevels ls k))

/-- The lengths of R171: one for the only used symbol and one for a second symbol, or one for the symbols 0 and 1. -/
def specialLengths (f : List Nat) : List Nat :=
  match f.zipIdx.find? (fun p => p.1 ≠ 0) with
  | none => f.zipIdx.map fun p => if p.2 < 2 then 1 else 0
  | some q => f.zipIdx.map fun p => if p.2 = q.2 ∨ p.2 = (if q.2 = 0 then 1 else 0) then 1 else 0

/-- How many frequencies are not zero. -/
def usedCount (f : List Nat) : Nat := (f.filter (fun x => x ≠ 0)).length

/-- `limited_lengths(f, n, L)`, the reference package-merge (R172) with the special cases of R171. -/
def limitedLengths (limit : Nat) (f : List Nat) : List Nat :=
  if usedCount f ≤ 1 then specialLengths f
  else
    let cur := packageLevels (leaves f) (limit - 1)
    let chosen := (cur.take (2 * usedCount f - 2)).flatMap (fun p => p.members)
    (List.range f.length).map fun s => chosen.count s

/-- The cost `Σ f·len` (R170). -/
def codeCost (f len : List Nat) : Nat := ((f.zip len).map (fun p => p.1 * p.2)).sum

/-- The contract of the length limiter (R170, R171): as many lengths as frequencies; with at most one used symbol the
lengths of R171; otherwise length 0 exactly at frequency 0, no length above the limit, a complete code, and a cost no
larger than the reference's, which is the least there is (R172). -/
def limitedOk (limit : Nat) (f len : List Nat) : Bool :=
  decide (len.length = f.length) &&
    (if usedCount f ≤ 1 then decide (len = specialLengths f)
    else
      (f.zip len).all (fun p => decide (p.2 = 0 ↔ p.1 = 0)) && len.all (fun l => decide (l ≤ limit)) &&
        decide (kraftSum limit len = 2 ^ limit) &&
        decide (codeCost f len ≤ codeCost f (limitedLengths limit f)))

end Sys2Proof.Machine
end

