-- ==== Sys2Proof/Machine/Lz.lean ====
section
/-! DEFINITION. LZ77 (42_lz77_matchfinder.md): the meaning of a symbol stream, the contract of a match finder, and the
reference match finder with its hash chains. -/

namespace Sys2Proof.Machine

/-! ### Symbol streams -/

/-- A match's bytes appended to a history held newest byte first: each byte is the one `dist` back from the current
end, so an overlapping match reads its own output (R194). None where `dist` is 0 or exceeds the history. -/
def expandMatch (len dist : Nat) (revHist : List Byte) : Option (List Byte) :=
  match len with
  | 0 => some revHist
  | k + 1 =>
    if dist = 0 then none
    else
      match revHist[dist - 1]? with
      | some b => expandMatch k dist (b :: revHist)
      | none => none

/-- The history after a symbol stream, newest byte first (R194). -/
def expandRev (revHist : List Byte) (syms : List LzItem) : Option (List Byte) :=
  match syms with
  | [] => some revHist
  | .lit b :: rest => expandRev (b :: revHist) rest
  | .copy len dist :: rest =>
    match expandMatch len dist revHist with
    | some h => expandRev h rest
    | none => none

/-- `expand(H, SYMS)` (R194): the bytes the stream appends to the history `H`; none where it is undefined. -/
def expand (hist : List Byte) (syms : List LzItem) : Option (List Byte) :=
  (expandRev hist.reverse syms).map fun h => h.reverse.drop hist.length

/-- One item is what R193 (b) and (c) allow. -/
def itemOk (window : Nat) (useLz77 : Bool) (i : LzItem) : Bool :=
  match i with
  | .lit _ => true
  | .copy len dist =>
    useLz77 && decide (Config.minMatch ≤ len) && decide (len ≤ Config.maxMatch) && decide (1 ≤ dist) &&
      decide (dist ≤ window)

/-- The match finder's contract (R193) for the block `data[start .. start + n)`. -/
def symbolsOk (window : Nat) (useLz77 : Bool) (data : List Byte) (start n : Nat) (syms : List LzItem) : Bool :=
  decide (expand (data.take start) syms = some ((data.drop start).take n)) && syms.all (itemOk window useLz77)

/-! ### The reference match finder -/

/-- HASH (R195): at its reference the identity on the three bytes, otherwise any function. -/
def hash3 (c : Choice) (b0 b1 b2 : Byte) : Nat :=
  match c with
  | .reference => b0.toNat + 256 * b1.toNat + 65536 * b2.toNat
  | .free => Config.freeHash b0 b1 b2

/-- The entry of a table of (key, position) pairs, newest first. -/
def tableGet (t : List (Nat × Nat)) (k : Nat) : Option Nat := t.lookup k

/-- What one search needs besides the data: WINDOWSIZE, MINMATCH, NICEMATCH, USE_LZ77, LAZYMATCHING,
MAX_CHAIN_LENGTH and HASH. -/
structure FinderConfig where
  window   : Nat
  minMatch : Nat
  nice     : Nat
  useLz77  : Bool
  lazy     : Bool
  maxChain : Nat
  hash     : Choice
  deriving DecidableEq, Repr

/-- HEAD and PREV (R196). -/
structure Chains where
  head : List (Nat × Nat)
  prev : List (Nat × Nat)
  deriving DecidableEq, Repr

/-- The hash of position `p`, which has one only when three bytes are left (R195). -/
def hashAt (c : Choice) (data : List Byte) (p : Nat) : Option Nat :=
  match data.drop p with
  | b0 :: b1 :: b2 :: _ => some (hash3 c b0 b1 b2)
  | _ => none

/-- `insert(p)` (R196). -/
def insertPos (c : Choice) (data : List Byte) (p : Nat) (t : Chains) : Chains :=
  match hashAt c data p with
  | none => t
  | some h =>
    { head := (h, p) :: t.head.filter (fun e => e.1 ≠ h)
      prev :=
        match tableGet t.head h with
        | some q => (p, q) :: t.prev
        | none => t.prev }

/-- Insert `n` consecutive positions from `p` on. -/
def insertRange (c : Choice) (data : List Byte) (p n : Nat) (t : Chains) : Chains :=
  match n with
  | 0 => t
  | k + 1 => insertRange c data (p + 1) k (insertPos c data p t)

/-- The largest `l ≤ cap` for which the two sequences agree on their first `l` bytes (R198). -/
def matchLen (cap : Nat) (xs ys : List Byte) : Nat :=
  match cap, xs, ys with
  | k + 1, x :: xs', y :: ys' => if x = y then matchLen k xs' ys' + 1 else 0
  | _, _, _ => 0

/-- The chain walk of R198 with `fuel` steps left, from candidate `q`, with the best (length, distance) so far. A search
starts with MAX_CHAIN_LENGTH steps; 0 of them, which R8 excludes, find no match (DESIGN CHOICE, log entry 4). -/
def walkChain (cfg : FinderConfig) (data : List Byte) (p cap : Nat) (prev : List (Nat × Nat)) (fuel : Nat)
    (q : Option Nat) (best : Nat × Nat) : Nat × Nat :=
  match fuel, q with
  | k + 1, some q =>
    if cfg.window < p - q then best
    else
      let l := matchLen cap (data.drop q) (data.drop p)
      let best' := if best.1 < l then (l, p - q) else best
      if cfg.nice ≤ l then best'
      else walkChain cfg data p cap prev k (tableGet prev q) best'
  | _, _ => best

/-- `search(p, end)` (R198, R199): the longest match for position `p`, the nearest among the longest; (0, 0) for none. -/
def search (cfg : FinderConfig) (data : List Byte) (t : Chains) (p stop : Nat) : Nat × Nat :=
  if stop < p + 3 then (0, 0)
  else
    match hashAt cfg.hash data p with
    | none => (0, 0)
    | some h =>
      walkChain cfg data p (min Config.maxMatch (stop - p)) t.prev cfg.maxChain (tableGet t.head h) (0, 0)

/-- What the match finder's loop carries: the position, the match in hand, the chains and the items so far, newest
first. -/
structure FinderState where
  p      : Nat
  best   : Nat × Nat
  chains : Chains
  revOut : List LzItem
  deriving DecidableEq, Repr

/-- The lazy step of R200, repeated while the next position has a strictly longer match. -/
def lazySteps (cfg : FinderConfig) (data : List Byte) (stop fuel : Nat) (f : FinderState) : FinderState :=
  match fuel with
  | 0 => f
  | k + 1 =>
    if stop ≤ f.p + 1 then f
    else
      let next := search cfg data f.chains (f.p + 1) stop
      if f.best.1 < next.1 then
        lazySteps cfg data stop k
          { p := f.p + 1
            best := next
            chains := insertPos cfg.hash data (f.p + 1) f.chains
            revOut := .lit (data.getD f.p 0) :: f.revOut }
      else f

/-- One turn of the loop of R200. -/
def findStep (cfg : FinderConfig) (data : List Byte) (stop : Nat) (f : FinderState) : FinderState :=
  let literal : LzItem := .lit (data.getD f.p 0)
  if cfg.useLz77 = false then { f with p := f.p + 1, revOut := literal :: f.revOut }
  else
    let best := search cfg data f.chains f.p stop
    let chains := insertPos cfg.hash data f.p f.chains
    if best.1 < max Config.minMatch cfg.minMatch then
      { f with p := f.p + 1, chains := chains, revOut := literal :: f.revOut }
    else
      let g := { f with best := best, chains := chains }
      let g := if cfg.lazy then lazySteps cfg data stop (stop - f.p) g else g
      { g with
        p := g.p + g.best.1
        chains := insertRange cfg.hash data (g.p + 1) (g.best.1 - 1) g.chains
        revOut := .copy g.best.1 g.best.2 :: g.revOut }

/-- The loop of R200: every turn moves at least one position on. -/
def findLoop (cfg : FinderConfig) (data : List Byte) (stop fuel : Nat) (f : FinderState) : FinderState :=
  match fuel with
  | 0 => f
  | k + 1 => if stop ≤ f.p then f else findLoop cfg data stop k (findStep cfg data stop f)

/-- `find_symbols(data, start, end)` (R200): the symbol stream of a block, and the chains after it. -/
def findSymbols (cfg : FinderConfig) (data : List Byte) (start stop : Nat) (t : Chains) : List LzItem × Chains :=
  let f := findLoop cfg data stop (stop - start) { p := start, best := (0, 0), chains := t, revOut := [] }
  (f.revOut.reverse, f.chains)

end Sys2Proof.Machine
end

