-- ==== Sys2Proof/Machine/Deflate.lean ====
section
/-! DEFINITION. The DEFLATE unit (44_deflate.md): the bit writer, the emission of a block from its plan, the reference
planner, the compressor's contract, and zlib compression. A compressed stream is made in two halves: a plan (where the
blocks end, their types, symbols and code lengths), which is all that rule R260 leaves open, and the emission of a plan,
which is fixed. -/

namespace Sys2Proof.Machine

/-! ### The bit writer -/

/-- The bits `write_bits(v, n)` appends: least significant first (R136). -/
def writeBits (v n : Nat) : List Bool := (List.range n).map fun i => v.testBit i

/-- The bits `write_code(c, n)` appends: most significant first (R137). -/
def writeCode (c n : Nat) : List Bool := (List.range n).map fun i => c.testBit (n - 1 - i)

/-- How many zero bits `align_to_byte()` appends after `w` bits (R138). -/
def alignPad (w : Nat) : Nat := (8 - w % 8) % 8

/-- The bits `align_to_byte()` appends after `w` bits (R138, R268). -/
def alignBits (w : Nat) : List Bool := List.replicate (alignPad w) false

/-- The bytes of a bit sequence, bit `k` in bit `k mod 8` of byte `⌊k/8⌋`, the last byte filled up with zeros (R136,
R139). `n` bits with the number `v` are already in the byte being filled. -/
def packFrom (n v : Nat) (bits : List Bool) : List Byte :=
  match bits with
  | [] => if n = 0 then [] else [BitVec.ofNat 8 v]
  | b :: rest =>
    if n = 7 then BitVec.ofNat 8 (v + b.toNat * 128) :: packFrom 0 0 rest
    else packFrom (n + 1) (v + b.toNat * 2 ^ n) rest

/-- `finalize()` (R139). -/
def finalize (bits : List Bool) : List Byte := packFrom 0 0 bits

/-! ### Code-length symbols -/

/-- The CL symbol of an item (R96, R272). -/
def ClItem.symbol (i : ClItem) : Nat :=
  match i with
  | .clen c => c
  | .crep _ => 16
  | .czero k => if k < 11 then 17 else 18

/-- The value of an item's extra field (R272). -/
def ClItem.extra (i : ClItem) : Nat :=
  match i with
  | .clen _ => 0
  | .crep k => k - 3
  | .czero k => if k < 11 then k - 3 else k - 11

/-- The runs of equal entries, each with its length. -/
def runs (q : List Nat) : List (Nat × Nat) :=
  match q with
  | [] => []
  | v :: rest =>
    match runs rest with
    | (w, n) :: more => if v = w then (v, n + 1) :: more else (v, 1) :: (w, n) :: more
    | [] => [(v, 1)]

/-- The items of a run of `n` zeros (R272). -/
def zeroRun (fuel n : Nat) : List ClItem :=
  match fuel with
  | 0 => []
  | k + 1 =>
    if 11 ≤ n then .czero (min n 138) :: zeroRun k (n - min n 138)
    else if 3 ≤ n then [.czero n]
    else List.replicate n (.clen 0)

/-- The items that repeat `v` `n` more times (R272). -/
def repRun (v fuel n : Nat) : List ClItem :=
  match fuel with
  | 0 => []
  | k + 1 =>
    if 3 ≤ n then .crep (min n 6) :: repRun v k (n - min n 6)
    else List.replicate n (.clen v)

/-- The items of one run (R272). -/
def runItems (r : Nat × Nat) : List ClItem :=
  if r.1 = 0 then zeroRun r.2 r.2
  else if 4 ≤ r.2 then .clen r.1 :: repRun r.1 r.2 (r.2 - 1)
  else List.replicate r.2 (.clen r.1)

/-- `rle(Q)` (R272). -/
def rle (q : List Nat) : List ClItem := (runs q).flatMap runItems

/-- The lengths a sequence of items stands for (R222 read backwards), the lengths so far newest first; none where an
item is out of range or a repeat comes first. -/
def expandItems (rev : List Nat) (items : List ClItem) : Option (List Nat) :=
  match items with
  | [] => some rev.reverse
  | .clen c :: rest => if c ≤ 15 then expandItems (c :: rev) rest else none
  | .crep k :: rest =>
    match rev with
    | [] => none
    | v :: _ => if 3 ≤ k ∧ k ≤ 6 then expandItems (List.replicate k v ++ rev) rest else none
  | .czero k :: rest => if 3 ≤ k ∧ k ≤ 138 then expandItems (List.replicate k 0 ++ rev) rest else none

/-! ### Counts -/

/-- How often each number below `n` occurs. -/
def countAll (n : Nat) (xs : List Nat) : List Nat := (List.range n).map fun s => xs.count s

/-- The literal/length symbol of an item (R203). -/
def LzItem.llSymbol (i : LzItem) : Nat :=
  match i with
  | .lit b => b.toNat
  | .copy len _ => lsym len

/-- FREQ_LL, with the one end-of-block symbol (R270). -/
def freqLL (syms : List LzItem) : List Nat := countAll 286 (256 :: syms.map LzItem.llSymbol)

/-- The distance symbols of a stream (R203). -/
def distSymbols (syms : List LzItem) : List Nat :=
  syms.filterMap fun i =>
    match i with
    | .lit _ => none
    | .copy _ dist => some (dsym dist)

/-- FREQ_D (R270). -/
def freqD (syms : List LzItem) : List Nat := countAll 30 (distSymbols syms)

/-- FREQ_CL (R272). -/
def freqCL (items : List ClItem) : List Nat := countAll 19 (items.map ClItem.symbol)

/-- One more than the largest index with a nonzero entry; 0 for none. -/
def usedSpan (l : List Nat) : Nat :=
  match l with
  | [] => 0
  | x :: rest => if usedSpan rest = 0 then (if x = 0 then 0 else 1) else usedSpan rest + 1

/-! ### Emission -/

/-- The two tables a Huffman block is written with (R269, R270). -/
def BlockPlan.tables (p : BlockPlan) : HuffTable × HuffTable :=
  if p.btype = 1 then (fixedLL, fixedD)
  else (buildCodes Config.maxLenLL (padTo Config.numLL p.llLen), buildCodes Config.maxLenD (padTo Config.numD p.dLen))

/-- One symbol's code word (R274). -/
def codeBits (T : HuffTable) (s : Nat) : List Bool := writeCode (T.code.getD s 0) (T.len.getD s 0)

/-- One item of a symbol stream (R274, R275). -/
def itemBits (ll d : HuffTable) (i : LzItem) : List Bool :=
  match i with
  | .lit b => codeBits ll b.toNat
  | .copy len dist =>
    codeBits ll (lsym len) ++ writeBits (len - lbase (lsym len)) (lextra (lsym len)) ++ codeBits d (dsym dist) ++
      writeBits (dist - dbase (dsym dist)) (dextra (dsym dist))

/-- `emit_symbols` (R274): the items and the end of block. -/
def symbolBits (ll d : HuffTable) (syms : List LzItem) : List Bool :=
  syms.flatMap (itemBits ll d) ++ codeBits ll 256

/-- The header of a dynamic block (R273). -/
def dynHeaderBits (p : BlockPlan) : List Bool :=
  let cl := buildCodes Config.maxLenCL p.clLen
  writeBits (p.hlit - 257) 5 ++ writeBits (p.hdist - 1) 5 ++ writeBits (p.hclen - 4) 4 ++
    (clOrder.take p.hclen).flatMap (fun c => writeBits (p.clLen.getD c 0) 3) ++
    p.clItems.flatMap fun i => codeBits cl i.symbol ++ writeBits i.extra (clExtra i.symbol)

/-- The body of a stored block after `w` bits (R266). -/
def storedBits (w : Nat) (bs : List Byte) : List Bool :=
  alignBits w ++ writeBits bs.length 16 ++ writeBits (bs.length ^^^ 0xFFFF) 16 ++
    bs.flatMap fun b => writeBits b.toNat 8

/-- A block after `w` bits (R264, R265): its header, then its body in the planned type. -/
def blockBits (w : Nat) (final : Bool) (bs : List Byte) (p : BlockPlan) : List Bool :=
  writeBits final.toNat 1 ++ writeBits p.btype 2 ++
    (if p.btype = 0 then storedBits (w + 3) bs
    else if p.btype = 1 then symbolBits p.tables.1 p.tables.2 p.syms
    else dynHeaderBits p ++ symbolBits p.tables.1 p.tables.2 p.syms)

/-- All blocks of a stream after `w` bits (R264); the last one is final (R262). -/
def streamBits (w : Nat) (data : List Byte) (plans : List BlockPlan) : List Bool :=
  match plans with
  | [] => []
  | p :: rest =>
    let bits := blockBits w rest.isEmpty (data.take p.len) p
    bits ++ streamBits (w + bits.length) (data.drop p.len) rest

/-! ### Sizes -/

/-- The size of one item (R276). -/
def itemCost (ll d : HuffTable) (i : LzItem) : Nat :=
  match i with
  | .lit b => ll.len.getD b.toNat 0
  | .copy len dist =>
    ll.len.getD (lsym len) 0 + lextra (lsym len) + d.len.getD (dsym dist) 0 + dextra (dsym dist)

/-- The size of a dynamic block's header (R276). -/
def dynHeaderCost (p : BlockPlan) : Nat :=
  14 + 3 * p.hclen + (p.clItems.map fun i => p.clLen.getD i.symbol 0 + clExtra i.symbol).sum

/-- The size of a block in bits after `w` bits (R276). -/
def blockCost (w : Nat) (p : BlockPlan) : Nat :=
  if p.btype = 0 then 3 + alignPad (w + 3) + 32 + 8 * p.len
  else
    3 + (if p.btype = 1 then 0 else dynHeaderCost p) + (p.syms.map (itemCost p.tables.1 p.tables.2)).sum +
      p.tables.1.len.getD 256 0

/-! ### The reference planner -/

/-- Everything a dynamic header needs, from the symbol stream (R270 to R273); the block's type is still open. -/
def planTrees (len : Nat) (syms : List LzItem) : BlockPlan :=
  let llLen := limitedLengths Config.maxLenLL (freqLL syms)
  let dLen := limitedLengths Config.maxLenD (freqD syms)
  let hlit := max 257 (usedSpan llLen)
  let hdist := max 1 (usedSpan dLen)
  let items := rle (llLen.take hlit ++ dLen.take hdist)
  let clLen := limitedLengths Config.maxLenCL (freqCL items)
  { len := len
    btype := 2
    syms := syms
    hlit := hlit
    hdist := hdist
    hclen := max 4 (usedSpan (clOrder.map fun c => clLen.getD c 0))
    llLen := llLen
    dLen := dLen
    clLen := clLen
    clItems := items }

/-- The block types the reference weighs for a block of `len` bytes (R263). -/
def candidateTypes (limit len : Nat) : List Nat :=
  (if len ≤ 65535 then [0] else []) ++ (if 1 ≤ limit then [1] else []) ++ (if 2 ≤ limit then [2] else [])

/-- The cheaper of two plans, the first on a tie (R263). -/
def cheaper (w : Nat) (a b : BlockPlan) : BlockPlan := if blockCost w b < blockCost w a then b else a

/-- The type decision of R263 among the candidates. -/
def chooseType (w limit : Nat) (p : BlockPlan) : BlockPlan :=
  match (candidateTypes limit p.len).map (fun t => { p with btype := t }) with
  | [] => { p with btype := 0 }
  | q :: qs => qs.foldl (cheaper w) q

/-- One block of the reference (R264): with BTYPE 0 the match finder does not run. -/
def planBlock (cfg : FinderConfig) (limit : Nat) (data : List Byte) (w start stop : Nat) (t : Chains) :
    BlockPlan × Chains :=
  if limit = 0 then
    ({ len := stop - start, btype := 0, syms := [], hlit := 0, hdist := 0, hclen := 0, llLen := [], dLen := []
       clLen := [], clItems := [] }, t)
  else
    let r := findSymbols cfg data start stop t
    (chooseType w limit (planTrees (stop - start) r.1), r.2)

/-- `n` blocks of at most `size` bytes from `start` on, after `w` bits (R262, R264). -/
def planBlocks (cfg : FinderConfig) (limit size : Nat) (data : List Byte) (n w start : Nat) (t : Chains) :
    List BlockPlan × Chains :=
  match n with
  | 0 => ([], t)
  | k + 1 =>
    let r := planBlock cfg limit data w start (min data.length (start + size)) t
    let more := planBlocks cfg limit size data k (w + blockCost w r.1) (start + size) r.2
    (r.1 :: more.1, more.2)

/-- What the match finder is configured with. -/
def State.finder (s : State) : FinderConfig :=
  { window := s.windowSize.toNat
    minMatch := s.minMatch.toNat
    nice := s.niceMatch.toNat
    useLz77 := s.useLz77
    lazy := s.lazyMatching
    maxChain := s.params.maxChain
    hash := s.params.hash }

/-- BLOCK_SIZE, at least 1, and at most 65535 when only stored blocks are allowed (R262). -/
def State.splitSize (s : State) : Nat :=
  if s.btypeLimit = 0 then min (max 1 s.params.blockSize) 65535 else max 1 s.params.blockSize

/-- The reference's plan of the whole stream (R262, R264). -/
def referencePlans (s : State) (data : List Byte) : List BlockPlan × Chains :=
  planBlocks s.finder s.btypeLimit s.splitSize data (max 1 ((data.length + s.splitSize - 1) / s.splitSize)) 0 0
    { head := [], prev := [] }

/-! ### The contract -/

/-- What R260 (c) to (f) and the contract of R170 allow of one block's plan, for the block `data[start .. start + len)`. -/
def planOk (s : State) (data : List Byte) (start : Nat) (p : BlockPlan) : Bool :=
  decide (p.btype ≤ s.btypeLimit) && decide (start + p.len ≤ data.length) &&
    (if p.btype = 0 then decide (p.len ≤ 65535)
    else
      symbolsOk s.windowSize.toNat s.useLz77 data start p.len p.syms &&
        (decide (p.btype = 1) ||
          (limitedOk Config.maxLenLL (freqLL p.syms) p.llLen && limitedOk Config.maxLenD (freqD p.syms) p.dLen &&
            limitedOk Config.maxLenCL (freqCL p.clItems) p.clLen &&
            decide (257 ≤ p.hlit) && decide (p.hlit ≤ 288) && decide (1 ≤ p.hdist) && decide (p.hdist ≤ 32) &&
            decide (4 ≤ p.hclen) && decide (p.hclen ≤ 19) &&
            decide (usedSpan p.llLen ≤ p.hlit) && decide (usedSpan p.dLen ≤ p.hdist) &&
            decide (usedSpan (clOrder.map fun c => p.clLen.getD c 0) ≤ p.hclen) &&
            decide (expandItems [] p.clItems =
              some ((padTo 288 p.llLen).take p.hlit ++ (padTo 32 p.dLen).take p.hdist)))))

/-- Plans that cover the data block after block from `start` on. -/
def plansCover (s : State) (data : List Byte) (start : Nat) (plans : List BlockPlan) : Bool :=
  match plans with
  | [] => decide (start = data.length)
  | p :: rest => planOk s data start p && plansCover s data (start + p.len) rest

/-- The contract of a whole stream's plan: at least one block, and the blocks cover the data (R260 (a)). -/
def plansOk (s : State) (data : List Byte) (plans : List BlockPlan) : Bool :=
  !plans.isEmpty && plansCover s data 0 plans

/-- The plan the block compresses by: the reference's, or, when the compressor is left open, any plan that meets the
contract (93 U12, U13). -/
def choosePlans (s : State) (data : List Byte) : List BlockPlan × Chains :=
  match s.params.compressor with
  | .reference => referencePlans s data
  | .free =>
    let plans := Config.freePlans s.freeCtr data
    if plansOk s data plans then (plans, { head := [], prev := [] }) else referencePlans s data

/-! ### The commands' bodies -/

/-- `check_deflate_config()` (R261): the first error in its order. -/
def deflateConfigError (s : State) : Option ErrKind :=
  let w := s.windowSize.toNat
  if w < 256 ∨ 32768 < w then some .invalidWindowSize
  else if w ≠ 2 ^ w.log2 then some .powerOfTwoRequired
  else if s.btypeLimit = 3 then some .badConfig
  else if s.minMatch.toNat < 3 ∨ 258 < s.minMatch.toNat then some .badConfig
  else if s.niceMatch.toNat < 3 ∨ 258 < s.niceMatch.toNat then some .badConfig
  else none

/-- The compressor's working state after the stream of these plans (R46, R47, R48): that of the last block. -/
def encoderAfter (plans : List BlockPlan) (t : Chains) (bits : List Bool) (e : Encoder) : Encoder :=
  match plans.getLast? with
  | none => { e with head := t.head, prev := t.prev, writer := bits }
  | some p =>
    { head := t.head
      prev := t.prev
      syms := p.syms
      freqLL := freqLL p.syms
      freqD := freqD p.syms
      freqCL := freqCL p.clItems
      llLen := p.llLen
      dLen := p.dLen
      clLen := p.clLen
      writer := bits }

/-- `deflate(data)` (R264): the planned stream is written and delivered to OUT (R139). -/
def deflateBody (data : List Byte) (s : State) : Res Unit :=
  let r := choosePlans s data
  let bits := streamBits 0 data r.1
  appendAll (finalize bits) (s.setEnc (encoderAfter r.1 r.2 (bits ++ alignBits bits.length) s.work.enc))

/-- The four bytes of a word, most significant first (R291). -/
def bigEndian (a : Word) : List Byte :=
  [a.extractLsb' 24 8, a.extractLsb' 16 8, a.extractLsb' 8 8, a.extractLsb' 0 8]

/-- The command DEFLATE (R347, R261, R264). -/
def deflateCommand (s : State) : Res Unit :=
  match deflateConfigError s with
  | some k => .raise k s
  | none => (readAllIn s).bind fun data s => (deflateBody data s).bind fun _ s => .ok () (complete s)

/-- The command ZLIB_COMPRESS (R348, R291): `78 01`, the DEFLATE stream, the Adler-32 of the input. -/
def zlibCompressCommand (s : State) : Res Unit :=
  match deflateConfigError s with
  | some k => .raise k s
  | none =>
    (readAllIn s).bind fun data s =>
      (appendAll [0x78#8, 0x01#8] s).bind fun _ s =>
        (deflateBody data s).bind fun _ s =>
          let a := adler32 data
          let s := s.setRegs
            { s.work.regs with s1 := (a.extractLsb' 0 16).zeroExtend 32, s2 := (a.extractLsb' 16 16).zeroExtend 32 }
          (appendAll (bigEndian a) s).bind fun _ s => .ok () (complete s)

end Sys2Proof.Machine
end

