-- ==== Sys2Proof/Machine/Filter.lean ====
section
/-! DEFINITION. The FILTER unit (45_filter.md): pass geometry, the five scanline predictors and their inverses, the
choice of a filter type, whole images, and the meanings of the SCANLINE elements. -/

namespace Sys2Proof.Machine

/-! ### Geometry -/

/-- `channels(COLORTYPE)` (R300). -/
def channels (colorType : Nat) : Nat :=
  if colorType = 0 ∨ colorType = 3 then 1
  else if colorType = 4 then 2
  else if colorType = 2 then 3
  else if colorType = 6 then 4
  else 0

/-- Bits per pixel (R300). -/
def State.bitsPerPixel (s : State) : Nat := s.bitDepth * channels s.colorType

/-- `LINEBYTES(w)` at `bpp` bits per pixel (R300). -/
def lineBytes (bpp w : Nat) : Nat := (w * bpp + 7) / 8

/-- BYTEWIDTH (R301). -/
def byteWidth (bpp : Nat) : Nat := max 1 (bpp / 8)

/-- IX (R320). -/
def passX (p : Nat) : Nat := [0, 0, 4, 0, 2, 0, 1, 0].getD p 0

/-- IY (R320). -/
def passY (p : Nat) : Nat := [0, 0, 0, 4, 0, 2, 0, 1].getD p 0

/-- DX (R320). -/
def passDX (p : Nat) : Nat := [1, 8, 8, 4, 4, 2, 2, 1].getD p 1

/-- DY (R320). -/
def passDY (p : Nat) : Nat := [1, 8, 8, 8, 4, 4, 2, 2].getD p 1

/-- `⌈(size - start) / step⌉`, 0 when nothing is left (R320). -/
def subSize (size start step : Nat) : Nat := (size - start + step - 1) / step

/-- `(w_p, h_p)` (R320). Without interlacing there is one pass, numbered 1 here, of the whole image; the numbers 2 to 7
are then empty passes. -/
def passDims (interlace : Bool) (width height p : Nat) : Nat × Nat :=
  if interlace then (subSize width (passX p) (passDX p), subSize height (passY p) (passDY p))
  else if p = 1 then (width, height)
  else (0, 0)

/-- `(w_p, h_p)` of the image in the registers. -/
def State.dims (s : State) (p : Nat) : Nat × Nat := passDims s.interlace s.width.toNat s.height.toNat p

/-- A pass with pixels (R320). -/
def State.passUsed (s : State) (p : Nat) : Bool := decide ((s.dims p).1 ≠ 0) && decide ((s.dims p).2 ≠ 0)

/-- The passes in order. -/
def passNumbers : List Nat := [1, 2, 3, 4, 5, 6, 7]

/-- The non-empty passes in order. -/
def State.usedPasses (s : State) : List Nat := passNumbers.filter s.passUsed

/-- The scanline length of pass `p`. -/
def State.passLine (s : State) (p : Nat) : Nat := lineBytes s.bitsPerPixel (s.dims p).1

/-- RAWLEN (R323). -/
def State.rawLen (s : State) : Nat := (s.usedPasses.map fun p => (s.dims p).2 * s.passLine p).sum

/-- NLINES (R323). -/
def State.lineCount (s : State) : Nat := (s.usedPasses.map fun p => (s.dims p).2).sum

/-- FILTLEN (R323). -/
def State.filtLen (s : State) : Nat := s.rawLen + s.lineCount

/-! ### Predictors -/

/-- The Paeth predictor (R305), in signed arithmetic without wrapping. -/
def paeth (a b c : Byte) : Byte :=
  let p : Int := (a.toNat : Int) + b.toNat - c.toNat
  let pa := (p - a.toNat).natAbs
  let pb := (p - b.toNat).natAbs
  let pc := (p - c.toNat).natAbs
  if pa ≤ pb ∧ pa ≤ pc then a else if pb ≤ pc then b else c

/-- What filter type `f` subtracts, from the left, upper and upper-left bytes (R302, R303, R304, R306, R307). The sum of
Average does not wrap (R306). -/
def predict (f : Nat) (left up upleft : Byte) : Byte :=
  if f = 1 then left
  else if f = 2 then up
  else if f = 3 then BitVec.ofNat 8 ((left.toNat + up.toNat) / 2)
  else if f = 4 then paeth left up upleft
  else 0#8

/-- Filter the rest of a scanline; the raw and prior bytes before it are held newest first. -/
def filterFrom (f bw : Nat) (rawRev priorRev raw prior : List Byte) : List Byte :=
  match raw with
  | [] => []
  | x :: rest =>
    (x - predict f (rawRev.getD (bw - 1) 0#8) (prior.headD 0#8) (priorRev.getD (bw - 1) 0#8)) ::
      filterFrom f bw (x :: rawRev) (prior.headD 0#8 :: priorRev) rest prior.tail

/-- `filter_F(raw, prior)` (R302 to R307). -/
def filterLine (f bw : Nat) (raw prior : List Byte) : List Byte := filterFrom f bw [] [] raw prior

/-- Undo the filter on the rest of a scanline; the reconstructed and prior bytes before it are held newest first. -/
def unfilterFrom (f bw : Nat) (rawRev priorRev out prior : List Byte) : List Byte :=
  match out with
  | [] => []
  | x :: rest =>
    let r := x + predict f (rawRev.getD (bw - 1) 0#8) (prior.headD 0#8) (priorRev.getD (bw - 1) 0#8)
    r :: unfilterFrom f bw (r :: rawRev) (prior.headD 0#8 :: priorRev) rest prior.tail

/-- `unfilter_F(out, prior)` (R302 to R308). -/
def unfilterLine (f bw : Nat) (out prior : List Byte) : List Byte := unfilterFrom f bw [] [] out prior

/-! ### The choice of the filter type -/

/-- `absb(b)` (R314). -/
def absb (b : Byte) : Nat := if b.toNat < 128 then b.toNat else 256 - b.toNat

/-- The score of a candidate line for minsum (R314). -/
def sumScore (line : List Byte) : Nat := (line.map absb).sum

/-- `c_0 … c_255`, the histogram of a candidate line (R315). -/
def histogram (line : List Byte) : List Nat := (List.range 256).map fun v => line.count (BitVec.ofNat 8 v)

/-- `Π_v c_v^c_v`: the larger it is, the smaller is the entropy of the line's histogram (R315). -/
def histogramWeight (line : List Byte) : Nat := (histogram line).foldl (fun acc c => acc * c ^ c) 1

/-- The smallest index, counted from `i`, with the least score, `best` at `at_` so far. -/
def leastFrom (i best at_ : Nat) (scores : List Nat) : Nat :=
  match scores with
  | [] => at_
  | x :: rest => if x < best then leastFrom (i + 1) x i rest else leastFrom (i + 1) best at_ rest

/-- The smallest index with the least score. -/
def least (scores : List Nat) : Nat :=
  match scores with
  | [] => 0
  | x :: rest => leastFrom 1 x 0 rest

/-- The smallest index, counted from `i`, with the greatest score, `best` at `at_` so far. -/
def greatestFrom (i best at_ : Nat) (scores : List Nat) : Nat :=
  match scores with
  | [] => at_
  | x :: rest => if best < x then greatestFrom (i + 1) x i rest else greatestFrom (i + 1) best at_ rest

/-- The smallest index with the greatest score. -/
def greatest (scores : List Nat) : Nat :=
  match scores with
  | [] => 0
  | x :: rest => greatestFrom 1 x 0 rest

/-- Over the reals the entropy of `a` is below that of `b`, a line as long, by more than the error of the other
arithmetic: `H(b) - H(a) = (log2 Π_v c_v(a)^c_v(a) - log2 Π_v c_v(b)^c_v(b)) / n` (R315, 92 section 2). -/
def clearlyLower (a b : List Byte) : Bool :=
  let e := Config.freeEntropyError b.length
  decide (histogramWeight b ^ (e.2 + 1) * 2 ^ (b.length * e.1) < histogramWeight a ^ (e.2 + 1))

/-- What 92 section 2 asks of ENTROPY_ARITH, on these candidates: it agrees with exact reals where the exact values
differ by more than its error. -/
def arithmeticAgrees (trial : List (List Byte)) : Bool :=
  trial.all fun a => trial.all fun b =>
    !clearlyLower a b || decide (Config.freeEntropy (histogram a) < Config.freeEntropy (histogram b))

/-- The pick of the entropy strategy (R315), the smallest index with the least entropy: evaluated exactly, or by any
other arithmetic that agrees with exact reals up to its error (ENTROPY_ARITH, 92 section 2); an arithmetic that does not
agree is not used (DESIGN CHOICE, log entry 14). -/
def entropyPick (c : Choice) (trial : List (List Byte)) : Nat :=
  match c with
  | .reference => greatest (trial.map histogramWeight)
  | .free =>
    if arithmeticAgrees trial then least (trial.map fun line => Config.freeEntropy (histogram line))
    else greatest (trial.map histogramWeight)

/-- The effective strategy (R311, R313). -/
def State.effectiveStrategy (s : State) : Nat :=
  if s.filterPaletteZero ∧ (s.colorType = 3 ∨ s.bitDepth < 8) then 0 else s.strategy

/-- `F = AUX[line]` (R317); a value above 4 is InvalidFilterType (R309). -/
def predefinedFilter (s : State) : Res Nat :=
  match s.auxBuf.read s.work.line.line with
  | none => .refuse .unwrittenByte
  | some b => if 4 < b.toNat then .raise .invalidFilterType s else .ok b.toNat s

/-- `choose_filter` (R311 to R317) among the candidate lines TRY; the least score, smallest index first (D26). -/
def chooseFilter (s : State) : Res Nat :=
  let trial := s.work.line.trial
  if s.effectiveStrategy = 0 then .ok 0 s
  else if s.effectiveStrategy = 1 then .ok (least (trial.map sumScore)) s
  else if s.effectiveStrategy = 2 then .ok (entropyPick s.params.entropy trial) s
  else if s.effectiveStrategy = 3 then .ok (least (trial.map Config.bruteSize)) s
  else predefinedFilter s

/-! ### Whole images -/

/-- `check_filter_config()` (R322): the first error in its order. -/
def filterConfigError (isFilter : Bool) (s : State) : Option ErrKind :=
  if s.colorType ≠ 0 ∧ s.colorType ≠ 2 ∧ s.colorType ≠ 3 ∧ s.colorType ≠ 4 ∧ s.colorType ≠ 6 then
    some .unsupportedColorType
  else if s.bitDepth ≠ 1 ∧ s.bitDepth ≠ 2 ∧ s.bitDepth ≠ 4 ∧ s.bitDepth ≠ 8 ∧ s.bitDepth ≠ 16 then
    some .unsupportedBitDepth
  else if s.colorType = 3 ∧ s.bitDepth = 16 then some .invalidColorMode
  else if s.bitDepth < 8 ∧ s.colorType ≠ 0 ∧ s.colorType ≠ 3 then some .invalidColorMode
  else if s.width = 0#31 ∨ s.height = 0#31 then some .badConfig
  else if isFilter ∧ 5 ≤ s.strategy then some .badConfig
  else none

/-- The length check of R323. -/
def lengthsOk (isFilter : Bool) (s : State) : Bool :=
  if isFilter then
    decide (s.inLen.toNat = s.rawLen) &&
      (decide (s.effectiveStrategy ≠ 4) || decide (s.auxLen.toNat = s.lineCount))
  else decide (s.inLen.toNat = s.filtLen)

/-- A pass begins (R321): PASS, LINEBYTES and BYTEWIDTH are set, ROW is 0, PRIOR is zeros. -/
def beginPass (p : Nat) (s : State) : State :=
  (s.setRegs
    { s.work.regs with
      pass := BitVec.ofNat 3 p
      row := 0#31
      linebytes := BitVec.ofNat 34 (s.passLine p)
      bytewidth := BitVec.ofNat 4 (byteWidth s.bitsPerPixel) }).setLine
    { s.work.line with prior := List.replicate (s.passLine p) 0#8 }

/-- One scanline of FILTER (R321): CUR, the five candidates, the choice, the output; CUR becomes PRIOR. -/
def filterRow (s : State) : Res Unit :=
  let r := s.work.regs
  let l := s.work.line
  (readInBytes .lengthMismatch l.pos r.linebytes.toNat s).bind fun cur s =>
    let trial := (List.range 5).map fun f => filterLine f r.bytewidth.toNat cur l.prior
    let s := s.setLine { l with cur := cur, trial := trial, pos := l.pos + r.linebytes.toNat }
    (chooseFilter s).bind fun f s =>
      let s := s.setRegs { s.work.regs with f := BitVec.ofNat 8 f }
      (appendAll (BitVec.ofNat 8 f :: trial.getD f []) s).bind fun _ s =>
        .ok () (s.setLine { s.work.line with prior := cur, line := l.line + 1 })

/-- The rows of one pass of FILTER from `row` on. -/
def filterRows (n row : Nat) (s : State) : Res Unit :=
  match n with
  | 0 => .ok () s
  | k + 1 =>
    (filterRow (s.setRegs { s.work.regs with row := BitVec.ofNat 31 row })).bind fun _ s => filterRows k (row + 1) s

/-- The passes of FILTER (R321). -/
def filterPasses (ps : List Nat) (s : State) : Res Unit :=
  match ps with
  | [] => .ok () s
  | p :: rest => (filterRows (s.dims p).2 0 (beginPass p s)).bind fun _ s => filterPasses rest s

/-- The command FILTER (R353, R321). -/
def filterCommand (s : State) : Res Unit :=
  match filterConfigError true s with
  | some k => .raise k s
  | none =>
    if lengthsOk true s then
      (filterPasses s.usedPasses (s.setLine { s.work.line with pos := 0, line := 0 })).bind fun _ s =>
        .ok () (complete s)
    else .raise .lengthMismatch s

/-- The command UNFILTER (R354, R321) up to its first scanline, which comes next. -/
def unfilterCommand (s : State) : Res Unit :=
  match filterConfigError false s with
  | some k => .raise k s
  | none =>
    if lengthsOk false s then
      match s.usedPasses with
      | [] => .ok () (complete s)
      | p :: _ => .ok () ((beginPass p (s.setLine { s.work.line with pos := 0 })).setRun (.busy .scanline))
    else .raise .lengthMismatch s

/-- After a scanline of UNFILTER (R321): the next row of the pass, the first row of the next non-empty pass, or the
end. -/
def nextLine (s : State) : State :=
  let r := s.work.regs
  if r.row.toNat + 1 < (s.dims r.pass.toNat).2 then
    (s.setRegs { r with row := r.row + 1#31 }).setRun (.busy .scanline)
  else
    match s.usedPasses.filter (fun p => r.pass.toNat < p) with
    | [] => complete s
    | p :: _ => (beginPass p s).setRun (.busy .scanline)

/-- One scanline of UNFILTER after its filter byte `f` (R308). -/
def unfilterRow (f : Nat) (s : State) : Res Unit :=
  let r := s.work.regs
  let l := s.work.line
  (readInBytes .lengthMismatch l.pos r.linebytes.toNat s).bind fun out s =>
    let cur := unfilterLine f r.bytewidth.toNat out l.prior
    (appendAll cur (s.setLine { l with cur := cur, pos := l.pos + r.linebytes.toNat })).bind fun _ s =>
      .ok () (nextLine (s.setLine { s.work.line with prior := cur }))

/-! ### Meanings -/

/-- FILT_NONE (R302, R308). -/
def execFiltNone (s : State) : Host.Outcome State Fault Refusal :=
  (unfilterRow 0 s).finish

/-- FILT_SUB (R303, R308). -/
def execFiltSub (s : State) : Host.Outcome State Fault Refusal :=
  (unfilterRow 1 s).finish

/-- FILT_UP (R304, R308). -/
def execFiltUp (s : State) : Host.Outcome State Fault Refusal :=
  (unfilterRow 2 s).finish

/-- FILT_AVERAGE (R306, R308). -/
def execFiltAverage (s : State) : Host.Outcome State Fault Refusal :=
  (unfilterRow 3 s).finish

/-- FILT_PAETH (R307, R308). -/
def execFiltPaeth (s : State) : Host.Outcome State Fault Refusal :=
  (unfilterRow 4 s).finish

/-- FILT_ILLEGAL_5_7 (R309): a filter byte of 5 or more is InvalidFilterType. -/
def execFiltIllegal5or7 (_mid : BitVec 1) (s : State) : Host.Outcome State Fault Refusal :=
  (Res.raise .invalidFilterType s).finish

/-- FILT_ILLEGAL_6 (R309): a filter byte of 5 or more is InvalidFilterType. -/
def execFiltIllegal6 (s : State) : Host.Outcome State Fault Refusal :=
  (Res.raise .invalidFilterType s).finish

/-- FILT_ILLEGAL_8_15 (R309): a filter byte of 5 or more is InvalidFilterType. -/
def execFiltIllegal8to15 (_low : BitVec 3) (s : State) : Host.Outcome State Fault Refusal :=
  (Res.raise .invalidFilterType s).finish

/-- FILT_ILLEGAL_16_31 (R309): a filter byte of 5 or more is InvalidFilterType. -/
def execFiltIllegal16to31 (_low : BitVec 4) (s : State) : Host.Outcome State Fault Refusal :=
  (Res.raise .invalidFilterType s).finish

/-- FILT_ILLEGAL_32_63 (R309): a filter byte of 5 or more is InvalidFilterType. -/
def execFiltIllegal32to63 (_low : BitVec 5) (s : State) : Host.Outcome State Fault Refusal :=
  (Res.raise .invalidFilterType s).finish

/-- FILT_ILLEGAL_64_127 (R309): a filter byte of 5 or more is InvalidFilterType. -/
def execFiltIllegal64to127 (_low : BitVec 6) (s : State) : Host.Outcome State Fault Refusal :=
  (Res.raise .invalidFilterType s).finish

/-- FILT_ILLEGAL_128_255 (R309): a filter byte of 5 or more is InvalidFilterType. -/
def execFiltIllegal128to255 (_low : BitVec 7) (s : State) : Host.Outcome State Fault Refusal :=
  (Res.raise .invalidFilterType s).finish

end Sys2Proof.Machine
end

