-- ==== Sys2Proof/Syntax.lean ====
section
/-! DEFINITION. The instructions: one constructor per row of spec/opcode_table.json (30_encoding.md R119), in the
table's order. A row's operands are the bits its mask leaves free. Extra bits, block bodies and scanline data are
not part of a row: they are read by the meaning, from the stream (R103, R94, R95, R99). -/

namespace Sys2Proof

/-- The formats of 30_encoding.md R90, the space an instruction's value is read in. -/
inductive Format where
  | zhdr
  | ztrl
  | blk
  | stored
  | dynhdr
  | clsym
  | llsym
  | dsym
  | scanline
  | cmdw
  deriving DecidableEq, Repr

/-- The stream elements and the host's command words, one constructor per row of the opcode table. -/
inductive Instr where
  /-- ZHDR: zlib header (R241) -/
  | zhdr (cinfo : BitVec 3) (flevel : BitVec 2) (fcheck : BitVec 5)
  /-- ZHDR_BAD_CINFO: zlib header (R241) -/
  | zhdrBadCinfo (rest : BitVec 15)
  /-- ZHDR_BAD_FDICT: zlib header (R241) -/
  | zhdrBadFdict (hi : BitVec 9) (lo : BitVec 5)
  /-- ZHDR_BAD_CM_0xxx: zlib header (R241) -/
  | zhdrBadCm0xxx (cinfo : BitVec 3) (cm : BitVec 3) (flevel : BitVec 2) (fcheck : BitVec 5)
  /-- ZHDR_BAD_CM_11xx: zlib header (R241) -/
  | zhdrBadCm11xx (cinfo : BitVec 3) (cm : BitVec 2) (flevel : BitVec 2) (fcheck : BitVec 5)
  /-- ZHDR_BAD_CM_101x: zlib header (R241) -/
  | zhdrBadCm101x (cinfo : BitVec 3) (cm : BitVec 1) (flevel : BitVec 2) (fcheck : BitVec 5)
  /-- ZHDR_BAD_CM_1001: zlib header (R241) -/
  | zhdrBadCm1001 (cinfo : BitVec 3) (flevel : BitVec 2) (fcheck : BitVec 5)
  /-- ADLER32: zlib trailer (R245) -/
  | adler32 (adler : BitVec 32)
  /-- BLOCK_STORED: block header (R213) -/
  | blockStored (bfinal : BitVec 1)
  /-- BLOCK_FIXED: block header (R216) -/
  | blockFixed (bfinal : BitVec 1)
  /-- BLOCK_DYNAMIC: block header (R220) -/
  | blockDynamic (bfinal : BitVec 1)
  /-- BLOCK_RESERVED: block header (R211) -/
  | blockReserved (bfinal : BitVec 1)
  /-- STORED: stored block body (R213) -/
  | stored
  /-- DYNHDR: dynamic block header (R220) -/
  | dynhdr
  /-- CLEN: code-length symbol (R251) -/
  | clen (c : BitVec 4)
  /-- CREP: code-length symbol (R252) -/
  | crep
  /-- CZERO_SHORT: code-length symbol (R253) -/
  | czeroShort
  /-- CZERO_LONG: code-length symbol (R254) -/
  | czeroLong
  /-- LIT: literal/length symbol (R231) -/
  | lit (byte : BitVec 8)
  /-- EOB: literal/length symbol (R232) -/
  | eob
  /-- LEN_257: literal/length symbol (R233) -/
  | len257
  /-- LEN_258: literal/length symbol (R233) -/
  | len258
  /-- LEN_259: literal/length symbol (R233) -/
  | len259
  /-- LEN_260: literal/length symbol (R233) -/
  | len260
  /-- LEN_261: literal/length symbol (R233) -/
  | len261
  /-- LEN_262: literal/length symbol (R233) -/
  | len262
  /-- LEN_263: literal/length symbol (R233) -/
  | len263
  /-- LEN_264: literal/length symbol (R233) -/
  | len264
  /-- LEN_265: literal/length symbol (R233) -/
  | len265
  /-- LEN_266: literal/length symbol (R233) -/
  | len266
  /-- LEN_267: literal/length symbol (R233) -/
  | len267
  /-- LEN_268: literal/length symbol (R233) -/
  | len268
  /-- LEN_269: literal/length symbol (R233) -/
  | len269
  /-- LEN_270: literal/length symbol (R233) -/
  | len270
  /-- LEN_271: literal/length symbol (R233) -/
  | len271
  /-- LEN_272: literal/length symbol (R233) -/
  | len272
  /-- LEN_273: literal/length symbol (R233) -/
  | len273
  /-- LEN_274: literal/length symbol (R233) -/
  | len274
  /-- LEN_275: literal/length symbol (R233) -/
  | len275
  /-- LEN_276: literal/length symbol (R233) -/
  | len276
  /-- LEN_277: literal/length symbol (R233) -/
  | len277
  /-- LEN_278: literal/length symbol (R233) -/
  | len278
  /-- LEN_279: literal/length symbol (R233) -/
  | len279
  /-- LEN_280: literal/length symbol (R233) -/
  | len280
  /-- LEN_281: literal/length symbol (R233) -/
  | len281
  /-- LEN_282: literal/length symbol (R233) -/
  | len282
  /-- LEN_283: literal/length symbol (R233) -/
  | len283
  /-- LEN_284: literal/length symbol (R233) -/
  | len284
  /-- LEN_285: literal/length symbol (R233) -/
  | len285
  /-- LL_ILLEGAL: literal/length symbol (R237) -/
  | llIllegal (low : BitVec 1)
  /-- DIST_0: distance symbol (R234) -/
  | dist0
  /-- DIST_1: distance symbol (R234) -/
  | dist1
  /-- DIST_2: distance symbol (R234) -/
  | dist2
  /-- DIST_3: distance symbol (R234) -/
  | dist3
  /-- DIST_4: distance symbol (R234) -/
  | dist4
  /-- DIST_5: distance symbol (R234) -/
  | dist5
  /-- DIST_6: distance symbol (R234) -/
  | dist6
  /-- DIST_7: distance symbol (R234) -/
  | dist7
  /-- DIST_8: distance symbol (R234) -/
  | dist8
  /-- DIST_9: distance symbol (R234) -/
  | dist9
  /-- DIST_10: distance symbol (R234) -/
  | dist10
  /-- DIST_11: distance symbol (R234) -/
  | dist11
  /-- DIST_12: distance symbol (R234) -/
  | dist12
  /-- DIST_13: distance symbol (R234) -/
  | dist13
  /-- DIST_14: distance symbol (R234) -/
  | dist14
  /-- DIST_15: distance symbol (R234) -/
  | dist15
  /-- DIST_16: distance symbol (R234) -/
  | dist16
  /-- DIST_17: distance symbol (R234) -/
  | dist17
  /-- DIST_18: distance symbol (R234) -/
  | dist18
  /-- DIST_19: distance symbol (R234) -/
  | dist19
  /-- DIST_20: distance symbol (R234) -/
  | dist20
  /-- DIST_21: distance symbol (R234) -/
  | dist21
  /-- DIST_22: distance symbol (R234) -/
  | dist22
  /-- DIST_23: distance symbol (R234) -/
  | dist23
  /-- DIST_24: distance symbol (R234) -/
  | dist24
  /-- DIST_25: distance symbol (R234) -/
  | dist25
  /-- DIST_26: distance symbol (R234) -/
  | dist26
  /-- DIST_27: distance symbol (R234) -/
  | dist27
  /-- DIST_28: distance symbol (R234) -/
  | dist28
  /-- DIST_29: distance symbol (R234) -/
  | dist29
  /-- DIST_ILLEGAL: distance symbol (R234) -/
  | distIllegal (low : BitVec 1)
  /-- FILT_NONE: filter byte (R302) -/
  | filtNone
  /-- FILT_SUB: filter byte (R303) -/
  | filtSub
  /-- FILT_UP: filter byte (R304) -/
  | filtUp
  /-- FILT_AVERAGE: filter byte (R306) -/
  | filtAverage
  /-- FILT_PAETH: filter byte (R307) -/
  | filtPaeth
  /-- FILT_ILLEGAL_5_7: filter byte (R309) -/
  | filtIllegal5or7 (mid : BitVec 1)
  /-- FILT_ILLEGAL_6: filter byte (R309) -/
  | filtIllegal6
  /-- FILT_ILLEGAL_8_15: filter byte (R309) -/
  | filtIllegal8to15 (low : BitVec 3)
  /-- FILT_ILLEGAL_16_31: filter byte (R309) -/
  | filtIllegal16to31 (low : BitVec 4)
  /-- FILT_ILLEGAL_32_63: filter byte (R309) -/
  | filtIllegal32to63 (low : BitVec 5)
  /-- FILT_ILLEGAL_64_127: filter byte (R309) -/
  | filtIllegal64to127 (low : BitVec 6)
  /-- FILT_ILLEGAL_128_255: filter byte (R309) -/
  | filtIllegal128to255 (low : BitVec 7)
  /-- NOP: command word (R343) -/
  | nop
  /-- INFLATE: command word (R344) -/
  | inflate
  /-- ZLIB_DECOMPRESS: command word (R345) -/
  | zlibDecompress
  /-- ZLIB_INFO: command word (R346) -/
  | zlibInfo
  /-- DEFLATE: command word (R347) -/
  | deflate
  /-- ZLIB_COMPRESS: command word (R348) -/
  | zlibCompress
  /-- CRC_INIT: command word (R349) -/
  | crcInit
  /-- CRC_UPDATE: command word (R350) -/
  | crcUpdate
  /-- ADLER_INIT: command word (R351) -/
  | adlerInit
  /-- ADLER_UPDATE: command word (R352) -/
  | adlerUpdate
  /-- FILTER: command word (R353) -/
  | filter
  /-- UNFILTER: command word (R354) -/
  | unfilter
  /-- CMD_ILLEGAL_BIT31: command word (R342) -/
  | cmdIllegalBit31 (low : BitVec 31)
  /-- CMD_ILLEGAL_BIT30: command word (R342) -/
  | cmdIllegalBit30 (low : BitVec 30)
  /-- CMD_ILLEGAL_BIT29: command word (R342) -/
  | cmdIllegalBit29 (low : BitVec 29)
  /-- CMD_ILLEGAL_BIT28: command word (R342) -/
  | cmdIllegalBit28 (low : BitVec 28)
  /-- CMD_ILLEGAL_BIT27: command word (R342) -/
  | cmdIllegalBit27 (low : BitVec 27)
  /-- CMD_ILLEGAL_BIT26: command word (R342) -/
  | cmdIllegalBit26 (low : BitVec 26)
  /-- CMD_ILLEGAL_BIT25: command word (R342) -/
  | cmdIllegalBit25 (low : BitVec 25)
  /-- CMD_ILLEGAL_BIT24: command word (R342) -/
  | cmdIllegalBit24 (low : BitVec 24)
  /-- CMD_ILLEGAL_BIT23: command word (R342) -/
  | cmdIllegalBit23 (low : BitVec 23)
  /-- CMD_ILLEGAL_BIT22: command word (R342) -/
  | cmdIllegalBit22 (low : BitVec 22)
  /-- CMD_ILLEGAL_BIT21: command word (R342) -/
  | cmdIllegalBit21 (low : BitVec 21)
  /-- CMD_ILLEGAL_BIT20: command word (R342) -/
  | cmdIllegalBit20 (low : BitVec 20)
  /-- CMD_ILLEGAL_BIT19: command word (R342) -/
  | cmdIllegalBit19 (low : BitVec 19)
  /-- CMD_ILLEGAL_BIT18: command word (R342) -/
  | cmdIllegalBit18 (low : BitVec 18)
  /-- CMD_ILLEGAL_BIT17: command word (R342) -/
  | cmdIllegalBit17 (low : BitVec 17)
  /-- CMD_ILLEGAL_BIT16: command word (R342) -/
  | cmdIllegalBit16 (low : BitVec 16)
  /-- CMD_ILLEGAL_BIT15: command word (R342) -/
  | cmdIllegalBit15 (low : BitVec 15)
  /-- CMD_ILLEGAL_BIT14: command word (R342) -/
  | cmdIllegalBit14 (low : BitVec 14)
  /-- CMD_ILLEGAL_BIT13: command word (R342) -/
  | cmdIllegalBit13 (low : BitVec 13)
  /-- CMD_ILLEGAL_BIT12: command word (R342) -/
  | cmdIllegalBit12 (low : BitVec 12)
  /-- CMD_ILLEGAL_BIT11: command word (R342) -/
  | cmdIllegalBit11 (low : BitVec 11)
  /-- CMD_ILLEGAL_BIT10: command word (R342) -/
  | cmdIllegalBit10 (low : BitVec 10)
  /-- CMD_ILLEGAL_BIT9: command word (R342) -/
  | cmdIllegalBit9 (low : BitVec 9)
  /-- CMD_ILLEGAL_BIT8: command word (R342) -/
  | cmdIllegalBit8 (low : BitVec 8)
  /-- CMD_ILLEGAL_06: command word (R342) -/
  | cmdIllegal06 (low : BitVec 1)
  /-- CMD_ILLEGAL_0C: command word (R342) -/
  | cmdIllegal0C (low : BitVec 2)
  /-- CMD_ILLEGAL_12: command word (R342) -/
  | cmdIllegal12 (low : BitVec 1)
  /-- CMD_ILLEGAL_14: command word (R342) -/
  | cmdIllegal14 (low : BitVec 2)
  /-- CMD_ILLEGAL_18: command word (R342) -/
  | cmdIllegal18 (low : BitVec 3)
  /-- CMD_ILLEGAL_20: command word (R342) -/
  | cmdIllegal20 (low : BitVec 5)
  /-- CMD_ILLEGAL_40: command word (R342) -/
  | cmdIllegal40 (low : BitVec 6)
  /-- CMD_ILLEGAL_80: command word (R342) -/
  | cmdIllegal80 (low : BitVec 7)
  deriving DecidableEq, Repr

end Sys2Proof
end

