-- ==== Sys2Proof/WellFormed.lean ====
section
/-! DEFINITION. The one condition a row carries that its mask cannot express: a legal zlib header word is divisible by
31 (30_encoding.md R119). -/

namespace Sys2Proof

/-- The 16-bit number CMF * 256 + FLG of a zlib header with CM = 8 and FDICT = 0 (30_encoding.md R91). -/
def zhdrWord (cinfo : BitVec 3) (flevel : BitVec 2) (fcheck : BitVec 5) : Nat :=
  cinfo.toNat * 4096 + 8 * 256 + flevel.toNat * 64 + fcheck.toNat

/-- A row's operands are what the row allows. Only ZHDR has a condition beyond its mask (R119); its failure is
BadZlibHeader (R241). -/
def Instr.wellFormed (i : Instr) : Bool :=
  match i with
  | .zhdr cinfo flevel fcheck => zhdrWord cinfo flevel fcheck % 31 = 0
  | .zhdrBadCinfo _ => true
  | .zhdrBadFdict _ _ => true
  | .zhdrBadCm0xxx _ _ _ _ => true
  | .zhdrBadCm11xx _ _ _ _ => true
  | .zhdrBadCm101x _ _ _ _ => true
  | .zhdrBadCm1001 _ _ _ => true
  | .adler32 _ => true
  | .blockStored _ => true
  | .blockFixed _ => true
  | .blockDynamic _ => true
  | .blockReserved _ => true
  | .stored => true
  | .dynhdr => true
  | .clen _ => true
  | .crep => true
  | .czeroShort => true
  | .czeroLong => true
  | .lit _ => true
  | .eob => true
  | .len257 => true
  | .len258 => true
  | .len259 => true
  | .len260 => true
  | .len261 => true
  | .len262 => true
  | .len263 => true
  | .len264 => true
  | .len265 => true
  | .len266 => true
  | .len267 => true
  | .len268 => true
  | .len269 => true
  | .len270 => true
  | .len271 => true
  | .len272 => true
  | .len273 => true
  | .len274 => true
  | .len275 => true
  | .len276 => true
  | .len277 => true
  | .len278 => true
  | .len279 => true
  | .len280 => true
  | .len281 => true
  | .len282 => true
  | .len283 => true
  | .len284 => true
  | .len285 => true
  | .llIllegal _ => true
  | .dist0 => true
  | .dist1 => true
  | .dist2 => true
  | .dist3 => true
  | .dist4 => true
  | .dist5 => true
  | .dist6 => true
  | .dist7 => true
  | .dist8 => true
  | .dist9 => true
  | .dist10 => true
  | .dist11 => true
  | .dist12 => true
  | .dist13 => true
  | .dist14 => true
  | .dist15 => true
  | .dist16 => true
  | .dist17 => true
  | .dist18 => true
  | .dist19 => true
  | .dist20 => true
  | .dist21 => true
  | .dist22 => true
  | .dist23 => true
  | .dist24 => true
  | .dist25 => true
  | .dist26 => true
  | .dist27 => true
  | .dist28 => true
  | .dist29 => true
  | .distIllegal _ => true
  | .filtNone => true
  | .filtSub => true
  | .filtUp => true
  | .filtAverage => true
  | .filtPaeth => true
  | .filtIllegal5or7 _ => true
  | .filtIllegal6 => true
  | .filtIllegal8to15 _ => true
  | .filtIllegal16to31 _ => true
  | .filtIllegal32to63 _ => true
  | .filtIllegal64to127 _ => true
  | .filtIllegal128to255 _ => true
  | .nop => true
  | .inflate => true
  | .zlibDecompress => true
  | .zlibInfo => true
  | .deflate => true
  | .zlibCompress => true
  | .crcInit => true
  | .crcUpdate => true
  | .adlerInit => true
  | .adlerUpdate => true
  | .filter => true
  | .unfilter => true
  | .cmdIllegalBit31 _ => true
  | .cmdIllegalBit30 _ => true
  | .cmdIllegalBit29 _ => true
  | .cmdIllegalBit28 _ => true
  | .cmdIllegalBit27 _ => true
  | .cmdIllegalBit26 _ => true
  | .cmdIllegalBit25 _ => true
  | .cmdIllegalBit24 _ => true
  | .cmdIllegalBit23 _ => true
  | .cmdIllegalBit22 _ => true
  | .cmdIllegalBit21 _ => true
  | .cmdIllegalBit20 _ => true
  | .cmdIllegalBit19 _ => true
  | .cmdIllegalBit18 _ => true
  | .cmdIllegalBit17 _ => true
  | .cmdIllegalBit16 _ => true
  | .cmdIllegalBit15 _ => true
  | .cmdIllegalBit14 _ => true
  | .cmdIllegalBit13 _ => true
  | .cmdIllegalBit12 _ => true
  | .cmdIllegalBit11 _ => true
  | .cmdIllegalBit10 _ => true
  | .cmdIllegalBit9 _ => true
  | .cmdIllegalBit8 _ => true
  | .cmdIllegal06 _ => true
  | .cmdIllegal0C _ => true
  | .cmdIllegal12 _ => true
  | .cmdIllegal14 _ => true
  | .cmdIllegal18 _ => true
  | .cmdIllegal20 _ => true
  | .cmdIllegal40 _ => true
  | .cmdIllegal80 _ => true

end Sys2Proof
end

