-- ==== Sys2Proof/Decode.lean ====
section
/-! DEFINITION. Decoding: one total function per format of 30_encoding.md R90, from the number R119 says the table's
masks apply to, to the row's instruction; every value of the format's domain is some row's, every other value is
rejected. Then the encoder, written from the same table. -/

namespace Sys2Proof

/-- ZHDR: the 16-bit number CMF * 256 + FLG (R91, R119). -/
def decodeZhdr (v : Nat) : Option Instr :=
  if 65536 ≤ v then none
  else if 0x8000 ≤ v then some (.zhdrBadCinfo (BitVec.ofNat 15 v))
  else if v / 32 % 2 = 1 then some (.zhdrBadFdict (BitVec.ofNat 9 (v / 64)) (BitVec.ofNat 5 v))
  else
    let cinfo := BitVec.ofNat 3 (v / 4096)
    let flevel := BitVec.ofNat 2 (v / 64)
    let fcheck := BitVec.ofNat 5 v
    if v / 256 % 16 < 8 then some (.zhdrBadCm0xxx cinfo (BitVec.ofNat 3 (v / 256)) flevel fcheck)
    else if v / 256 % 16 = 8 then some (.zhdr cinfo flevel fcheck)
    else if v / 256 % 16 = 9 then some (.zhdrBadCm1001 cinfo flevel fcheck)
    else if v / 256 % 16 < 12 then some (.zhdrBadCm101x cinfo (BitVec.ofNat 1 (v / 256)) flevel fcheck)
    else some (.zhdrBadCm11xx cinfo (BitVec.ofNat 2 (v / 256)) flevel fcheck)

/-- ZTRL: the four trailer bytes, most significant first (R92). -/
def decodeZtrl (v : Nat) : Option Instr :=
  if 2 ^ 32 ≤ v then none else some (.adler32 (BitVec.ofNat 32 v))

/-- BLK: the 3-bit field h with BFINAL = h[0] and BTYPE = h[2:1] (R93). -/
def decodeBlk (v : Nat) : Option Instr :=
  let bfinal := BitVec.ofNat 1 v
  if 8 ≤ v then none
  else if v / 2 = 0 then some (.blockStored bfinal)
  else if v / 2 = 1 then some (.blockFixed bfinal)
  else if v / 2 = 2 then some (.blockDynamic bfinal)
  else some (.blockReserved bfinal)

/-- CLSYM: a code-length symbol number 0..18 (R96). -/
def decodeClsym (v : Nat) : Option Instr :=
  if v < 16 then some (.clen (BitVec.ofNat 4 v))
  else if v = 16 then some .crep
  else if v = 17 then some .czeroShort
  else if v = 18 then some .czeroLong
  else none

/-- The length symbols 257..285 in order (R108). -/
def lenInstrs : List Instr :=
  [.len257, .len258, .len259, .len260, .len261, .len262, .len263, .len264,
   .len265, .len266, .len267, .len268, .len269, .len270, .len271, .len272,
   .len273, .len274, .len275, .len276, .len277, .len278, .len279, .len280,
   .len281, .len282, .len283, .len284, .len285]

/-- LLSYM: a literal/length symbol number 0..287 (R97, R107). -/
def decodeLlsym (v : Nat) : Option Instr :=
  if v < 256 then some (.lit (BitVec.ofNat 8 v))
  else if v = 256 then some .eob
  else if v < 286 then lenInstrs[v - 257]?
  else if v < 288 then some (.llIllegal (BitVec.ofNat 1 v))
  else none

/-- The distance symbols 0..29 in order (R109). -/
def distInstrs : List Instr :=
  [.dist0, .dist1, .dist2, .dist3, .dist4, .dist5, .dist6, .dist7,
   .dist8, .dist9, .dist10, .dist11, .dist12, .dist13, .dist14, .dist15,
   .dist16, .dist17, .dist18, .dist19, .dist20, .dist21, .dist22, .dist23,
   .dist24, .dist25, .dist26, .dist27, .dist28, .dist29]

/-- DSYM: a distance symbol number 0..31 (R98). -/
def decodeDsym (v : Nat) : Option Instr :=
  if v < 30 then distInstrs[v]?
  else if v < 32 then some (.distIllegal (BitVec.ofNat 1 v))
  else none

/-- SCANLINE: the filter byte F (R99). -/
def decodeScanline (v : Nat) : Option Instr :=
  if 256 ≤ v then none
  else if 128 ≤ v then some (.filtIllegal128to255 (BitVec.ofNat 7 v))
  else if 64 ≤ v then some (.filtIllegal64to127 (BitVec.ofNat 6 v))
  else if 32 ≤ v then some (.filtIllegal32to63 (BitVec.ofNat 5 v))
  else if 16 ≤ v then some (.filtIllegal16to31 (BitVec.ofNat 4 v))
  else if 8 ≤ v then some (.filtIllegal8to15 (BitVec.ofNat 3 v))
  else if v = 6 then some .filtIllegal6
  else if 5 ≤ v then some (.filtIllegal5or7 (BitVec.ofNat 1 (v / 2)))
  else if v = 4 then some .filtPaeth
  else if v = 3 then some .filtAverage
  else if v = 2 then some .filtUp
  else if v = 1 then some .filtSub
  else some .filtNone

/-- CMDW with a bit of 31:8 set: the row of the highest such bit (R119, R342). -/
def decodeCmdReserved (v : Nat) : Option Instr :=
  if 2 ^ 31 ≤ v then some (.cmdIllegalBit31 (BitVec.ofNat 31 v))
  else if 2 ^ 30 ≤ v then some (.cmdIllegalBit30 (BitVec.ofNat 30 v))
  else if 2 ^ 29 ≤ v then some (.cmdIllegalBit29 (BitVec.ofNat 29 v))
  else if 2 ^ 28 ≤ v then some (.cmdIllegalBit28 (BitVec.ofNat 28 v))
  else if 2 ^ 27 ≤ v then some (.cmdIllegalBit27 (BitVec.ofNat 27 v))
  else if 2 ^ 26 ≤ v then some (.cmdIllegalBit26 (BitVec.ofNat 26 v))
  else if 2 ^ 25 ≤ v then some (.cmdIllegalBit25 (BitVec.ofNat 25 v))
  else if 2 ^ 24 ≤ v then some (.cmdIllegalBit24 (BitVec.ofNat 24 v))
  else if 2 ^ 23 ≤ v then some (.cmdIllegalBit23 (BitVec.ofNat 23 v))
  else if 2 ^ 22 ≤ v then some (.cmdIllegalBit22 (BitVec.ofNat 22 v))
  else if 2 ^ 21 ≤ v then some (.cmdIllegalBit21 (BitVec.ofNat 21 v))
  else if 2 ^ 20 ≤ v then some (.cmdIllegalBit20 (BitVec.ofNat 20 v))
  else if 2 ^ 19 ≤ v then some (.cmdIllegalBit19 (BitVec.ofNat 19 v))
  else if 2 ^ 18 ≤ v then some (.cmdIllegalBit18 (BitVec.ofNat 18 v))
  else if 2 ^ 17 ≤ v then some (.cmdIllegalBit17 (BitVec.ofNat 17 v))
  else if 2 ^ 16 ≤ v then some (.cmdIllegalBit16 (BitVec.ofNat 16 v))
  else if 2 ^ 15 ≤ v then some (.cmdIllegalBit15 (BitVec.ofNat 15 v))
  else if 2 ^ 14 ≤ v then some (.cmdIllegalBit14 (BitVec.ofNat 14 v))
  else if 2 ^ 13 ≤ v then some (.cmdIllegalBit13 (BitVec.ofNat 13 v))
  else if 2 ^ 12 ≤ v then some (.cmdIllegalBit12 (BitVec.ofNat 12 v))
  else if 2 ^ 11 ≤ v then some (.cmdIllegalBit11 (BitVec.ofNat 11 v))
  else if 2 ^ 10 ≤ v then some (.cmdIllegalBit10 (BitVec.ofNat 10 v))
  else if 2 ^ 9 ≤ v then some (.cmdIllegalBit9 (BitVec.ofNat 9 v))
  else if 2 ^ 8 ≤ v then some (.cmdIllegalBit8 (BitVec.ofNat 8 v))
  else none

/-- CMDW with bits 31:8 zero: the opcode map of R120, and the unassigned opcodes (R342). -/
def decodeOpcode (v : Nat) : Option Instr :=
  if 0x100 ≤ v then none
  else if 0x80 ≤ v then some (.cmdIllegal80 (BitVec.ofNat 7 v))
  else if 0x40 ≤ v then some (.cmdIllegal40 (BitVec.ofNat 6 v))
  else if 0x20 ≤ v then some (.cmdIllegal20 (BitVec.ofNat 5 v))
  else if 0x18 ≤ v then some (.cmdIllegal18 (BitVec.ofNat 3 v))
  else if 0x14 ≤ v then some (.cmdIllegal14 (BitVec.ofNat 2 v))
  else if 0x12 ≤ v then some (.cmdIllegal12 (BitVec.ofNat 1 v))
  else if v = 0x11 then some .unfilter
  else if v = 0x10 then some .filter
  else if 0x0C ≤ v then some (.cmdIllegal0C (BitVec.ofNat 2 v))
  else if v = 0x0B then some .adlerUpdate
  else if v = 0x0A then some .adlerInit
  else if v = 0x09 then some .crcUpdate
  else if v = 0x08 then some .crcInit
  else if 0x06 ≤ v then some (.cmdIllegal06 (BitVec.ofNat 1 v))
  else if v = 0x05 then some .zlibCompress
  else if v = 0x04 then some .deflate
  else if v = 0x03 then some .zlibInfo
  else if v = 0x02 then some .zlibDecompress
  else if v = 0x01 then some .inflate
  else some .nop

/-- CMDW: the 32-bit command word (R100). -/
def decodeCmdw (v : Nat) : Option Instr :=
  if 2 ^ 32 ≤ v then none
  else if 0x100 ≤ v then decodeCmdReserved v
  else decodeOpcode v

/-- The decoder: the row of format `f` that the value `v` selects (R119). The body formats STORED and DYNHDR have
one row each and nothing to select it by. -/
def decode (f : Format) (v : Nat) : Option Instr :=
  match f with
  | .zhdr => decodeZhdr v
  | .ztrl => decodeZtrl v
  | .blk => decodeBlk v
  | .stored => some .stored
  | .dynhdr => some .dynhdr
  | .clsym => decodeClsym v
  | .llsym => decodeLlsym v
  | .dsym => decodeDsym v
  | .scanline => decodeScanline v
  | .cmdw => decodeCmdw v

/-- The format an instruction belongs to (30_encoding.md R90). -/
def Instr.format (i : Instr) : Format :=
  match i with
  | .zhdr _ _ _ => .zhdr
  | .zhdrBadCinfo _ => .zhdr
  | .zhdrBadFdict _ _ => .zhdr
  | .zhdrBadCm0xxx _ _ _ _ => .zhdr
  | .zhdrBadCm11xx _ _ _ _ => .zhdr
  | .zhdrBadCm101x _ _ _ _ => .zhdr
  | .zhdrBadCm1001 _ _ _ => .zhdr
  | .adler32 _ => .ztrl
  | .blockStored _ => .blk
  | .blockFixed _ => .blk
  | .blockDynamic _ => .blk
  | .blockReserved _ => .blk
  | .stored => .stored
  | .dynhdr => .dynhdr
  | .clen _ => .clsym
  | .crep => .clsym
  | .czeroShort => .clsym
  | .czeroLong => .clsym
  | .lit _ => .llsym
  | .eob => .llsym
  | .len257 => .llsym
  | .len258 => .llsym
  | .len259 => .llsym
  | .len260 => .llsym
  | .len261 => .llsym
  | .len262 => .llsym
  | .len263 => .llsym
  | .len264 => .llsym
  | .len265 => .llsym
  | .len266 => .llsym
  | .len267 => .llsym
  | .len268 => .llsym
  | .len269 => .llsym
  | .len270 => .llsym
  | .len271 => .llsym
  | .len272 => .llsym
  | .len273 => .llsym
  | .len274 => .llsym
  | .len275 => .llsym
  | .len276 => .llsym
  | .len277 => .llsym
  | .len278 => .llsym
  | .len279 => .llsym
  | .len280 => .llsym
  | .len281 => .llsym
  | .len282 => .llsym
  | .len283 => .llsym
  | .len284 => .llsym
  | .len285 => .llsym
  | .llIllegal _ => .llsym
  | .dist0 => .dsym
  | .dist1 => .dsym
  | .dist2 => .dsym
  | .dist3 => .dsym
  | .dist4 => .dsym
  | .dist5 => .dsym
  | .dist6 => .dsym
  | .dist7 => .dsym
  | .dist8 => .dsym
  | .dist9 => .dsym
  | .dist10 => .dsym
  | .dist11 => .dsym
  | .dist12 => .dsym
  | .dist13 => .dsym
  | .dist14 => .dsym
  | .dist15 => .dsym
  | .dist16 => .dsym
  | .dist17 => .dsym
  | .dist18 => .dsym
  | .dist19 => .dsym
  | .dist20 => .dsym
  | .dist21 => .dsym
  | .dist22 => .dsym
  | .dist23 => .dsym
  | .dist24 => .dsym
  | .dist25 => .dsym
  | .dist26 => .dsym
  | .dist27 => .dsym
  | .dist28 => .dsym
  | .dist29 => .dsym
  | .distIllegal _ => .dsym
  | .filtNone => .scanline
  | .filtSub => .scanline
  | .filtUp => .scanline
  | .filtAverage => .scanline
  | .filtPaeth => .scanline
  | .filtIllegal5or7 _ => .scanline
  | .filtIllegal6 => .scanline
  | .filtIllegal8to15 _ => .scanline
  | .filtIllegal16to31 _ => .scanline
  | .filtIllegal32to63 _ => .scanline
  | .filtIllegal64to127 _ => .scanline
  | .filtIllegal128to255 _ => .scanline
  | .nop => .cmdw
  | .inflate => .cmdw
  | .zlibDecompress => .cmdw
  | .zlibInfo => .cmdw
  | .deflate => .cmdw
  | .zlibCompress => .cmdw
  | .crcInit => .cmdw
  | .crcUpdate => .cmdw
  | .adlerInit => .cmdw
  | .adlerUpdate => .cmdw
  | .filter => .cmdw
  | .unfilter => .cmdw
  | .cmdIllegalBit31 _ => .cmdw
  | .cmdIllegalBit30 _ => .cmdw
  | .cmdIllegalBit29 _ => .cmdw
  | .cmdIllegalBit28 _ => .cmdw
  | .cmdIllegalBit27 _ => .cmdw
  | .cmdIllegalBit26 _ => .cmdw
  | .cmdIllegalBit25 _ => .cmdw
  | .cmdIllegalBit24 _ => .cmdw
  | .cmdIllegalBit23 _ => .cmdw
  | .cmdIllegalBit22 _ => .cmdw
  | .cmdIllegalBit21 _ => .cmdw
  | .cmdIllegalBit20 _ => .cmdw
  | .cmdIllegalBit19 _ => .cmdw
  | .cmdIllegalBit18 _ => .cmdw
  | .cmdIllegalBit17 _ => .cmdw
  | .cmdIllegalBit16 _ => .cmdw
  | .cmdIllegalBit15 _ => .cmdw
  | .cmdIllegalBit14 _ => .cmdw
  | .cmdIllegalBit13 _ => .cmdw
  | .cmdIllegalBit12 _ => .cmdw
  | .cmdIllegalBit11 _ => .cmdw
  | .cmdIllegalBit10 _ => .cmdw
  | .cmdIllegalBit9 _ => .cmdw
  | .cmdIllegalBit8 _ => .cmdw
  | .cmdIllegal06 _ => .cmdw
  | .cmdIllegal0C _ => .cmdw
  | .cmdIllegal12 _ => .cmdw
  | .cmdIllegal14 _ => .cmdw
  | .cmdIllegal18 _ => .cmdw
  | .cmdIllegal20 _ => .cmdw
  | .cmdIllegal40 _ => .cmdw
  | .cmdIllegal80 _ => .cmdw

/-- The value that selects an instruction's row within its format: the row's match pattern with the operands in the
bits its mask leaves free (R119 and the table). A body format has no value; it is written 0. -/
def Instr.value (i : Instr) : Nat :=
  match i with
  | .zhdr cinfo flevel fcheck => zhdrWord cinfo flevel fcheck
  | .zhdrBadCinfo rest => 0x8000 + rest.toNat
  | .zhdrBadFdict hi lo => 0x20 + hi.toNat * 64 + lo.toNat
  | .zhdrBadCm0xxx cinfo cm flevel fcheck => cinfo.toNat * 4096 + cm.toNat * 256 + flevel.toNat * 64 + fcheck.toNat
  | .zhdrBadCm11xx cinfo cm flevel fcheck => 0xc00 + cinfo.toNat * 4096 + cm.toNat * 256 + flevel.toNat * 64 + fcheck.toNat
  | .zhdrBadCm101x cinfo cm flevel fcheck => 0xa00 + cinfo.toNat * 4096 + cm.toNat * 256 + flevel.toNat * 64 + fcheck.toNat
  | .zhdrBadCm1001 cinfo flevel fcheck => 0x900 + cinfo.toNat * 4096 + flevel.toNat * 64 + fcheck.toNat
  | .adler32 adler => adler.toNat
  | .blockStored bfinal => bfinal.toNat
  | .blockFixed bfinal => 2 + bfinal.toNat
  | .blockDynamic bfinal => 4 + bfinal.toNat
  | .blockReserved bfinal => 6 + bfinal.toNat
  | .stored => 0
  | .dynhdr => 0
  | .clen c => c.toNat
  | .crep => 0x10
  | .czeroShort => 0x11
  | .czeroLong => 0x12
  | .lit byte => byte.toNat
  | .eob => 0x100
  | .len257 => 0x101
  | .len258 => 0x102
  | .len259 => 0x103
  | .len260 => 0x104
  | .len261 => 0x105
  | .len262 => 0x106
  | .len263 => 0x107
  | .len264 => 0x108
  | .len265 => 0x109
  | .len266 => 0x10a
  | .len267 => 0x10b
  | .len268 => 0x10c
  | .len269 => 0x10d
  | .len270 => 0x10e
  | .len271 => 0x10f
  | .len272 => 0x110
  | .len273 => 0x111
  | .len274 => 0x112
  | .len275 => 0x113
  | .len276 => 0x114
  | .len277 => 0x115
  | .len278 => 0x116
  | .len279 => 0x117
  | .len280 => 0x118
  | .len281 => 0x119
  | .len282 => 0x11a
  | .len283 => 0x11b
  | .len284 => 0x11c
  | .len285 => 0x11d
  | .llIllegal low => 0x11e + low.toNat
  | .dist0 => 0
  | .dist1 => 1
  | .dist2 => 2
  | .dist3 => 3
  | .dist4 => 4
  | .dist5 => 5
  | .dist6 => 6
  | .dist7 => 7
  | .dist8 => 8
  | .dist9 => 9
  | .dist10 => 0xa
  | .dist11 => 0xb
  | .dist12 => 0xc
  | .dist13 => 0xd
  | .dist14 => 0xe
  | .dist15 => 0xf
  | .dist16 => 0x10
  | .dist17 => 0x11
  | .dist18 => 0x12
  | .dist19 => 0x13
  | .dist20 => 0x14
  | .dist21 => 0x15
  | .dist22 => 0x16
  | .dist23 => 0x17
  | .dist24 => 0x18
  | .dist25 => 0x19
  | .dist26 => 0x1a
  | .dist27 => 0x1b
  | .dist28 => 0x1c
  | .dist29 => 0x1d
  | .distIllegal low => 0x1e + low.toNat
  | .filtNone => 0
  | .filtSub => 1
  | .filtUp => 2
  | .filtAverage => 3
  | .filtPaeth => 4
  | .filtIllegal5or7 mid => 5 + mid.toNat * 2
  | .filtIllegal6 => 6
  | .filtIllegal8to15 low => 8 + low.toNat
  | .filtIllegal16to31 low => 0x10 + low.toNat
  | .filtIllegal32to63 low => 0x20 + low.toNat
  | .filtIllegal64to127 low => 0x40 + low.toNat
  | .filtIllegal128to255 low => 0x80 + low.toNat
  | .nop => 0
  | .inflate => 1
  | .zlibDecompress => 2
  | .zlibInfo => 3
  | .deflate => 4
  | .zlibCompress => 5
  | .crcInit => 8
  | .crcUpdate => 9
  | .adlerInit => 0xa
  | .adlerUpdate => 0xb
  | .filter => 0x10
  | .unfilter => 0x11
  | .cmdIllegalBit31 low => 0x80000000 + low.toNat
  | .cmdIllegalBit30 low => 0x40000000 + low.toNat
  | .cmdIllegalBit29 low => 0x20000000 + low.toNat
  | .cmdIllegalBit28 low => 0x10000000 + low.toNat
  | .cmdIllegalBit27 low => 0x8000000 + low.toNat
  | .cmdIllegalBit26 low => 0x4000000 + low.toNat
  | .cmdIllegalBit25 low => 0x2000000 + low.toNat
  | .cmdIllegalBit24 low => 0x1000000 + low.toNat
  | .cmdIllegalBit23 low => 0x800000 + low.toNat
  | .cmdIllegalBit22 low => 0x400000 + low.toNat
  | .cmdIllegalBit21 low => 0x200000 + low.toNat
  | .cmdIllegalBit20 low => 0x100000 + low.toNat
  | .cmdIllegalBit19 low => 0x80000 + low.toNat
  | .cmdIllegalBit18 low => 0x40000 + low.toNat
  | .cmdIllegalBit17 low => 0x20000 + low.toNat
  | .cmdIllegalBit16 low => 0x10000 + low.toNat
  | .cmdIllegalBit15 low => 0x8000 + low.toNat
  | .cmdIllegalBit14 low => 0x4000 + low.toNat
  | .cmdIllegalBit13 low => 0x2000 + low.toNat
  | .cmdIllegalBit12 low => 0x1000 + low.toNat
  | .cmdIllegalBit11 low => 0x800 + low.toNat
  | .cmdIllegalBit10 low => 0x400 + low.toNat
  | .cmdIllegalBit9 low => 0x200 + low.toNat
  | .cmdIllegalBit8 low => 0x100 + low.toNat
  | .cmdIllegal06 low => 6 + low.toNat
  | .cmdIllegal0C low => 0xc + low.toNat
  | .cmdIllegal12 low => 0x12 + low.toNat
  | .cmdIllegal14 low => 0x14 + low.toNat
  | .cmdIllegal18 low => 0x18 + low.toNat
  | .cmdIllegal20 low => 0x20 + low.toNat
  | .cmdIllegal40 low => 0x40 + low.toNat
  | .cmdIllegal80 low => 0x80 + low.toNat

/-- The encoder: the format and the value of an instruction. -/
def encode (i : Instr) : Format × Nat := (i.format, i.value)

/-- The number of bits R119 gives a format's value (0 for the body formats). -/
def Format.bits (f : Format) : Nat :=
  match f with
  | .zhdr => 16
  | .ztrl => 32
  | .blk => 3
  | .stored => 0
  | .dynhdr => 0
  | .clsym => 5
  | .llsym => 9
  | .dsym => 5
  | .scanline => 8
  | .cmdw => 32

/-- The format a bare table word is read in. The table numbers the words of ten formats alike (R119) and the hardware
knows the format from what it is doing, so a word alone does not say it: DESIGN CHOICE (log entry 3), a word of four
bytes is a CMDW, a word of two bytes an LLSYM when it is a symbol number and a ZHDR otherwise, a word of one byte a
DSYM when it is a symbol number and a SCANLINE otherwise, and a word without bits is a stored block's body. -/
def tableFormat (nbits w : Nat) : Option Format :=
  if nbits = 32 then some .cmdw
  else if nbits = 16 then some (if w < 288 then .llsym else .zhdr)
  else if nbits = 8 then some (if w < 32 then .dsym else .scanline)
  else if nbits = 0 then some .stored
  else none

/-- The instruction the decoder reads from a bare table word (log entry 3). -/
def decodeTableWord (nbits w : Nat) : Option Instr :=
  match tableFormat nbits w with
  | some f => decode f w
  | none => none

end Sys2Proof
end

