-- ==== Sys2Proof/Machine/Inflate.lean ====
section
/-! DEFINITION. The INFLATE unit (43_inflate.md): the meanings of the stream elements ZHDR, ZTRL, BLK, STORED, DYNHDR,
CLSYM, LLSYM and DSYM. Each runs after its value has been fetched (Machine/Fetch.lean) and reads its own extra bits and
body; each leaves in STATE what the engine decodes next. The block loop of R210, the code-length loop of R222 and the
symbol loop of R230 are that hand-over. -/

namespace Sys2Proof.Machine

/-! ### Shared operations -/

/-- `inflate(A)` begins (R210): BITPOS and OUT_LEN are 0, the active input is the `size` bytes of IN from `base` on, and a
block header comes next. -/
def startInflate (base size : Nat) (s : State) : State :=
  ((s.setReader { bitpos := 0, base := base, size := size }).setOut [] 0#31).setRun (.busy .blk)

/-- `zlib_header_check` (R241) on the number CMF * 256 + FLG. -/
def zlibHeaderOk (v : Nat) : Bool :=
  decide (v % 31 = 0) && decide (v / 256 % 16 = 8) && decide (v / 4096 % 16 ≤ 7) && decide (v / 32 % 2 = 0)

/-- A zlib header (R240, R241, R242): BadZlibHeader, or `inflate` of `IN[2 .. IN_LEN - 4)` begins. -/
def zlibHeader (v : Nat) (s : State) : Res Unit :=
  if zlibHeaderOk v then .ok () (startInflate 2 (s.inLen.toNat - 6) s)
  else .raise .badZlibHeader s

/-- The zlib trailer (R245): the Adler-32 of OUT in the working registers S1 and S2 against the trailer, unless
IGNORE_ADLER32; then the command is done. -/
def zlibTrailer (a : Word) (s : State) : Res Unit :=
  (readAllOut s).bind fun out s =>
    let sum := adler32 out
    let s := s.setRegs
      { s.work.regs with s1 := (sum.extractLsb' 0 16).zeroExtend 32, s2 := (sum.extractLsb' 16 16).zeroExtend 32 }
    if s.ignoreAdler = false ∧ sum ≠ a then .raise .badAdler s
    else .ok () (complete s)

/-- A block header (R211) has been read: BFINAL and BTYPE are set, the inspection of the block starts at the header's
first bit, and the block's body comes next. -/
def beginBlock (bfinal : BitVec 1) (btype : BitVec 2) (next : Phase) (s : State) : State :=
  ((s.setRegs { s.work.regs with bfinal := bfinal, btype := btype }).setInsp
    { startBit := s.work.rd.bitpos - 3, startOut := s.outLen.toNat, treeBits := 0, symsRev := [] }).setRun (.busy next)

/-- The record of the block that ends now (R250). -/
def blockRecord (s : State) : BlockInfo :=
  let r := s.work.regs
  let dyn := r.btype = 2#2
  { btype := r.btype.toNat
    compressedBits := s.work.rd.bitpos - s.work.insp.startBit
    uncompressedBytes := s.outLen.toNat - s.work.insp.startOut
    treeBits := s.work.insp.treeBits
    hlit := if dyn then r.hlit.toNat else 0
    hdist := if dyn then r.hdist.toNat else 0
    hclen := if dyn then r.hclen.toNat else 0
    clLengths := if dyn then s.work.tabs.cl.len else []
    llLengths := if dyn then s.work.tabs.lens.take r.hlit.toNat else []
    dLengths := if dyn then (s.work.tabs.lens.drop r.hlit.toNat).take r.hdist.toNat else []
    symbols := s.work.insp.symsRev.reverse }

/-- A block is complete (R210, R232): in the inspection mode its record is appended to INFO (R250); after a block that
is not final the next header follows at the next bit; after the final one INFLATE is done and the zlib commands go on
to the trailer (R240). -/
def endBlock (s : State) : State :=
  let s := if s.work.framing = .inspect then s.setInfo (s.info ++ [blockRecord s]) else s
  if s.work.regs.bfinal = 0#1 then s.setRun (.busy .blk)
  else if s.work.framing = .raw then complete s
  else s.setRun (.busy .trailer)

/-- In the inspection mode a decoded item joins the block's symbol stream (R250). -/
def recordItem (i : LzItem) (s : State) : State :=
  if s.work.framing = .inspect then s.setInsp { s.work.insp with symsRev := i :: s.work.insp.symsRev } else s

/-- `OUT.append(A[k + i])` for `n` values of `i` (R213). -/
def copyStored (n k : Nat) (s : State) : Res Unit :=
  match n with
  | 0 => .ok () s
  | m + 1 =>
    match s.inBuf.read (s.work.rd.base + k) with
    | none => .refuse .unwrittenByte
    | some b => (appendOut b s).bind fun _ s => copyStored m (k + 1) s

/-- `stored_block()` (R213). -/
def storedBlock (s : State) : Res Unit :=
  (readBits 16 (byteAlign s)).bind fun len s =>
    (readBits 16 (s.setRegs { s.work.regs with len := BitVec.ofNat 16 len })).bind fun nlen s =>
      let s := s.setRegs { s.work.regs with nlen := BitVec.ofNat 16 nlen }
      if len + nlen ≠ 65535 then .raise .storedMismatch s
      else if s.inputBits < s.work.rd.bitpos + 8 * len then .raise .unexpectedEnd s
      else
        (copyStored len (s.work.rd.bitpos / 8) s).bind fun _ s =>
          .ok () (endBlock (s.setBitpos (s.work.rd.bitpos + 8 * len)))

/-- The three-bit fields of a dynamic header, one for each code-length symbol of `order` (R221). -/
def readClLengths (order acc : List Nat) (s : State) : Res (List Nat) :=
  match order with
  | [] => .ok acc s
  | c :: rest => (readBits 3 s).bind fun v s => readClLengths rest (acc.set c v) s

/-- A dynamic header (R220, R221): HLIT, HDIST and HCLEN, then the code-length table; the code-length sequence comes
next, empty so far (R222). -/
def dynHeader (s : State) : Res Unit :=
  (readBits 5 s).bind fun a s =>
    (readBits 5 (s.setRegs { s.work.regs with hlit := BitVec.ofNat 9 (a + 257) })).bind fun b s =>
      (readBits 4 (s.setRegs { s.work.regs with hdist := BitVec.ofNat 6 (b + 1) })).bind fun c s =>
        let s := s.setRegs { s.work.regs with hclen := BitVec.ofNat 5 (c + 4), cli := 0#9 }
        (readClLengths (clOrder.take (c + 4)) (List.replicate Config.numCL 0) s).bind fun lens s =>
          if overSubscribed Config.maxLenCL lens then .raise .invalidTree s
          else
            .ok () ((s.setTabs { s.work.tabs with cl := buildCodes Config.maxLenCL lens, lens := [] }).setRun
              (.busy .clsym))

/-- The split of the code-length sequence and the two builds (R226, R227, R163). -/
def buildTables (s : State) : Res Unit :=
  let hlit := s.work.regs.hlit.toNat
  let ll := padTo Config.numLL (s.work.tabs.lens.take hlit)
  let d := padTo Config.numD ((s.work.tabs.lens.drop hlit).take s.work.regs.hdist.toNat)
  if ll.getD 256 0 = 0 then .raise .invalidTree s
  else if overSubscribed Config.maxLenLL ll then .raise .invalidTree s
  else if overSubscribed Config.maxLenD d then .raise .invalidTree s
  else
    .ok () (((s.setTabs
      { s.work.tabs with ll := buildCodes Config.maxLenLL ll, d := buildCodes Config.maxLenD d }).setInsp
        { s.work.insp with treeBits := s.work.rd.bitpos - (s.work.insp.startBit + 3) }).setRun (.busy .llsym))

/-- `N`, the number of code lengths the sequence must produce (R222). -/
def State.lensWanted (s : State) : Nat := s.work.regs.hlit.toNat + s.work.regs.hdist.toNat

/-- `LENS[CLI .. CLI + n) <- v; CLI <- CLI + n` (R222). -/
def putLengths (v n : Nat) (s : State) : State :=
  (s.setTabs { s.work.tabs with lens := s.work.tabs.lens.take s.work.regs.cli.toNat ++ List.replicate n v }).setRegs
    { s.work.regs with cli := BitVec.ofNat 9 (s.work.regs.cli.toNat + n) }

/-- The test of the code-length loop (R222): another code-length symbol, or the tables. -/
def nextLength (s : State) : Res Unit :=
  if s.work.regs.cli.toNat < s.lensWanted then .ok () (s.setRun (.busy .clsym))
  else buildTables s

/-- `n` further lengths `v`, unless they run past HLIT + HDIST (R225). -/
def repeatLengths (v n : Nat) (s : State) : Res Unit :=
  if s.lensWanted < s.work.regs.cli.toNat + n then .raise .invalidTree s
  else nextLength (putLengths v n s)

/-- A literal (R231). -/
def literal (b : Byte) (s : State) : Res Unit :=
  (appendOut b s).bind fun _ s => .ok () ((recordItem (.lit b) s).setRun (.busy .llsym))

/-- A length symbol (R233, R103): `LENGTH <- LBASE[S] + read_bits(LEXTRA[S])`; a distance symbol comes next. -/
def lengthSymbol (sym : Nat) (s : State) : Res Unit :=
  (readBits (lextra sym) s).bind fun x s =>
    .ok () ((s.setRegs { s.work.regs with length := BitVec.ofNat 9 (lbase sym + x) }).setRun (.busy .dsym))

/-- The match expander (R236): byte by byte, each read `dist` back from the current end. -/
def copyMatch (n dist : Nat) (s : State) : Res Unit :=
  match n with
  | 0 => .ok () s
  | m + 1 =>
    (readHistory dist s).bind fun b s => (appendOut b s).bind fun _ s => copyMatch m dist s

/-- A distance symbol and the match it completes (R234, R235, R236, in the order of R238):
`DIST <- DBASE[d] + read_bits(DEXTRA[d])`, the distance check, the copy of LENGTH bytes. -/
def distSymbol (sym : Nat) (s : State) : Res Unit :=
  (readBits (dextra sym) s).bind fun x s =>
    let dist := dbase sym + x
    let s := s.setRegs { s.work.regs with dist := BitVec.ofNat 16 dist }
    if s.outLen.toNat < dist then .raise .badDistance s
    else
      (copyMatch s.work.regs.length.toNat dist s).bind fun _ s =>
        .ok () ((recordItem (.copy s.work.regs.length.toNat dist) s).setRun (.busy .llsym))

/-! ### Meanings -/


/-- ZHDR (R241): a header with CM 8, FDICT 0 and CINFO at most 7; it also needs the number divisible by 31. -/
def execZhdr (cinfo : BitVec 3) (flevel : BitVec 2) (fcheck : BitVec 5) (s : State) : Host.Outcome State Fault Refusal :=
  (zlibHeader (zhdrWord cinfo flevel fcheck) s).finish

/-- ZHDR_BAD_CINFO (R241): CINFO above 7 is BadZlibHeader. -/
def execZhdrBadCinfo (rest : BitVec 15) (s : State) : Host.Outcome State Fault Refusal :=
  (zlibHeader (0x8000 + rest.toNat) s).finish

/-- ZHDR_BAD_FDICT (R241): FDICT = 1 is BadZlibHeader. -/
def execZhdrBadFdict (hi : BitVec 9) (lo : BitVec 5) (s : State) : Host.Outcome State Fault Refusal :=
  (zlibHeader (0x20 + hi.toNat * 64 + lo.toNat) s).finish

/-- ZHDR_BAD_CM_0xxx (R241): CM other than 8 is BadZlibHeader. -/
def execZhdrBadCm0xxx (cinfo : BitVec 3) (cm : BitVec 3) (flevel : BitVec 2) (fcheck : BitVec 5) (s : State) : Host.Outcome State Fault Refusal :=
  (zlibHeader (cinfo.toNat * 4096 + cm.toNat * 256 + flevel.toNat * 64 + fcheck.toNat) s).finish

/-- ZHDR_BAD_CM_11xx (R241): CM other than 8 is BadZlibHeader. -/
def execZhdrBadCm11xx (cinfo : BitVec 3) (cm : BitVec 2) (flevel : BitVec 2) (fcheck : BitVec 5) (s : State) : Host.Outcome State Fault Refusal :=
  (zlibHeader (0xc00 + cinfo.toNat * 4096 + cm.toNat * 256 + flevel.toNat * 64 + fcheck.toNat) s).finish

/-- ZHDR_BAD_CM_101x (R241): CM other than 8 is BadZlibHeader. -/
def execZhdrBadCm101x (cinfo : BitVec 3) (cm : BitVec 1) (flevel : BitVec 2) (fcheck : BitVec 5) (s : State) : Host.Outcome State Fault Refusal :=
  (zlibHeader (0xa00 + cinfo.toNat * 4096 + cm.toNat * 256 + flevel.toNat * 64 + fcheck.toNat) s).finish

/-- ZHDR_BAD_CM_1001 (R241): CM other than 8 is BadZlibHeader. -/
def execZhdrBadCm1001 (cinfo : BitVec 3) (flevel : BitVec 2) (fcheck : BitVec 5) (s : State) : Host.Outcome State Fault Refusal :=
  (zlibHeader (0x900 + cinfo.toNat * 4096 + flevel.toNat * 64 + fcheck.toNat) s).finish

/-- ADLER32 (R245). -/
def execAdler32 (adler : BitVec 32) (s : State) : Host.Outcome State Fault Refusal :=
  (zlibTrailer adler s).finish

/-- BLOCK_STORED (R211, R213). -/
def execBlockStored (bfinal : BitVec 1) (s : State) : Host.Outcome State Fault Refusal :=
  .next (beginBlock bfinal 0#2 .stored s)

/-- BLOCK_FIXED (R211, R216): the fixed tables are loaded; no bits are read. -/
def execBlockFixed (bfinal : BitVec 1) (s : State) : Host.Outcome State Fault Refusal :=
  .next ((beginBlock bfinal 1#2 .llsym s).setTabs { s.work.tabs with ll := fixedLL, d := fixedD })

/-- BLOCK_DYNAMIC (R211, R220). -/
def execBlockDynamic (bfinal : BitVec 1) (s : State) : Host.Outcome State Fault Refusal :=
  .next (beginBlock bfinal 2#2 .dynhdr s)

/-- BLOCK_RESERVED (R211): BTYPE 3 is InvalidBlock. -/
def execBlockReserved (bfinal : BitVec 1) (s : State) : Host.Outcome State Fault Refusal :=
  (Res.raise .invalidBlock (beginBlock bfinal 3#2 .blk s)).finish

/-- STORED (R213). -/
def execStored (s : State) : Host.Outcome State Fault Refusal :=
  (storedBlock s).finish

/-- DYNHDR (R220, R221). -/
def execDynhdr (s : State) : Host.Outcome State Fault Refusal :=
  (dynHeader s).finish

/-- CLEN (R251): the next code length is `c`. -/
def execClen (c : BitVec 4) (s : State) : Host.Outcome State Fault Refusal :=
  (nextLength (putLengths c.toNat 1 s)).finish

/-- CREP (R252, R224): with nothing produced yet InvalidTree, before the extra bits; otherwise the previous length 3 + extra
times. -/
def execCrep (s : State) : Host.Outcome State Fault Refusal :=
  if s.work.regs.cli = 0#9 then (Res.raise .invalidTree s).finish
  else
    ((readBits (clExtra 16) s).bind fun e s =>
      repeatLengths (s.work.tabs.lens.getD (s.work.regs.cli.toNat - 1) 0) (3 + e) s).finish

/-- CZERO_SHORT (R253): 3 + extra zero lengths. -/
def execCzeroShort (s : State) : Host.Outcome State Fault Refusal :=
  ((readBits (clExtra 17) s).bind fun e s => repeatLengths 0 (3 + e) s).finish

/-- CZERO_LONG (R254): 11 + extra zero lengths. -/
def execCzeroLong (s : State) : Host.Outcome State Fault Refusal :=
  ((readBits (clExtra 18) s).bind fun e s => repeatLengths 0 (11 + e) s).finish

/-- LIT (R231). -/
def execLit (byte : BitVec 8) (s : State) : Host.Outcome State Fault Refusal :=
  (literal byte s).finish

/-- EOB (R232). -/
def execEob (s : State) : Host.Outcome State Fault Refusal :=
  .next (endBlock s)

/-- LEN_257 (R233, R108). -/
def execLen257 (s : State) : Host.Outcome State Fault Refusal :=
  (lengthSymbol 257 s).finish

/-- LEN_258 (R233, R108). -/
def execLen258 (s : State) : Host.Outcome State Fault Refusal :=
  (lengthSymbol 258 s).finish

/-- LEN_259 (R233, R108). -/
def execLen259 (s : State) : Host.Outcome State Fault Refusal :=
  (lengthSymbol 259 s).finish

/-- LEN_260 (R233, R108). -/
def execLen260 (s : State) : Host.Outcome State Fault Refusal :=
  (lengthSymbol 260 s).finish

/-- LEN_261 (R233, R108). -/
def execLen261 (s : State) : Host.Outcome State Fault Refusal :=
  (lengthSymbol 261 s).finish

/-- LEN_262 (R233, R108). -/
def execLen262 (s : State) : Host.Outcome State Fault Refusal :=
  (lengthSymbol 262 s).finish

/-- LEN_263 (R233, R108). -/
def execLen263 (s : State) : Host.Outcome State Fault Refusal :=
  (lengthSymbol 263 s).finish

/-- LEN_264 (R233, R108). -/
def execLen264 (s : State) : Host.Outcome State Fault Refusal :=
  (lengthSymbol 264 s).finish

/-- LEN_265 (R233, R108). -/
def execLen265 (s : State) : Host.Outcome State Fault Refusal :=
  (lengthSymbol 265 s).finish

/-- LEN_266 (R233, R108). -/
def execLen266 (s : State) : Host.Outcome State Fault Refusal :=
  (lengthSymbol 266 s).finish

/-- LEN_267 (R233, R108). -/
def execLen267 (s : State) : Host.Outcome State Fault Refusal :=
  (lengthSymbol 267 s).finish

/-- LEN_268 (R233, R108). -/
def execLen268 (s : State) : Host.Outcome State Fault Refusal :=
  (lengthSymbol 268 s).finish

/-- LEN_269 (R233, R108). -/
def execLen269 (s : State) : Host.Outcome State Fault Refusal :=
  (lengthSymbol 269 s).finish

/-- LEN_270 (R233, R108). -/
def execLen270 (s : State) : Host.Outcome State Fault Refusal :=
  (lengthSymbol 270 s).finish

/-- LEN_271 (R233, R108). -/
def execLen271 (s : State) : Host.Outcome State Fault Refusal :=
  (lengthSymbol 271 s).finish

/-- LEN_272 (R233, R108). -/
def execLen272 (s : State) : Host.Outcome State Fault Refusal :=
  (lengthSymbol 272 s).finish

/-- LEN_273 (R233, R108). -/
def execLen273 (s : State) : Host.Outcome State Fault Refusal :=
  (lengthSymbol 273 s).finish

/-- LEN_274 (R233, R108). -/
def execLen274 (s : State) : Host.Outcome State Fault Refusal :=
  (lengthSymbol 274 s).finish

/-- LEN_275 (R233, R108). -/
def execLen275 (s : State) : Host.Outcome State Fault Refusal :=
  (lengthSymbol 275 s).finish

/-- LEN_276 (R233, R108). -/
def execLen276 (s : State) : Host.Outcome State Fault Refusal :=
  (lengthSymbol 276 s).finish

/-- LEN_277 (R233, R108). -/
def execLen277 (s : State) : Host.Outcome State Fault Refusal :=
  (lengthSymbol 277 s).finish

/-- LEN_278 (R233, R108). -/
def execLen278 (s : State) : Host.Outcome State Fault Refusal :=
  (lengthSymbol 278 s).finish

/-- LEN_279 (R233, R108). -/
def execLen279 (s : State) : Host.Outcome State Fault Refusal :=
  (lengthSymbol 279 s).finish

/-- LEN_280 (R233, R108). -/
def execLen280 (s : State) : Host.Outcome State Fault Refusal :=
  (lengthSymbol 280 s).finish

/-- LEN_281 (R233, R108). -/
def execLen281 (s : State) : Host.Outcome State Fault Refusal :=
  (lengthSymbol 281 s).finish

/-- LEN_282 (R233, R108). -/
def execLen282 (s : State) : Host.Outcome State Fault Refusal :=
  (lengthSymbol 282 s).finish

/-- LEN_283 (R233, R108). -/
def execLen283 (s : State) : Host.Outcome State Fault Refusal :=
  (lengthSymbol 283 s).finish

/-- LEN_284 (R233, R108). -/
def execLen284 (s : State) : Host.Outcome State Fault Refusal :=
  (lengthSymbol 284 s).finish

/-- LEN_285 (R233, R108). -/
def execLen285 (s : State) : Host.Outcome State Fault Refusal :=
  (lengthSymbol 285 s).finish

/-- LL_ILLEGAL (R237): symbols 286 and 287 are InvalidSymbol. -/
def execLlIllegal (_low : BitVec 1) (s : State) : Host.Outcome State Fault Refusal :=
  (Res.raise .invalidSymbol s).finish

/-- DIST_0 (R234, R109). -/
def execDist0 (s : State) : Host.Outcome State Fault Refusal :=
  (distSymbol 0 s).finish

/-- DIST_1 (R234, R109). -/
def execDist1 (s : State) : Host.Outcome State Fault Refusal :=
  (distSymbol 1 s).finish

/-- DIST_2 (R234, R109). -/
def execDist2 (s : State) : Host.Outcome State Fault Refusal :=
  (distSymbol 2 s).finish

/-- DIST_3 (R234, R109). -/
def execDist3 (s : State) : Host.Outcome State Fault Refusal :=
  (distSymbol 3 s).finish

/-- DIST_4 (R234, R109). -/
def execDist4 (s : State) : Host.Outcome State Fault Refusal :=
  (distSymbol 4 s).finish

/-- DIST_5 (R234, R109). -/
def execDist5 (s : State) : Host.Outcome State Fault Refusal :=
  (distSymbol 5 s).finish

/-- DIST_6 (R234, R109). -/
def execDist6 (s : State) : Host.Outcome State Fault Refusal :=
  (distSymbol 6 s).finish

/-- DIST_7 (R234, R109). -/
def execDist7 (s : State) : Host.Outcome State Fault Refusal :=
  (distSymbol 7 s).finish

/-- DIST_8 (R234, R109). -/
def execDist8 (s : State) : Host.Outcome State Fault Refusal :=
  (distSymbol 8 s).finish

/-- DIST_9 (R234, R109). -/
def execDist9 (s : State) : Host.Outcome State Fault Refusal :=
  (distSymbol 9 s).finish

/-- DIST_10 (R234, R109). -/
def execDist10 (s : State) : Host.Outcome State Fault Refusal :=
  (distSymbol 10 s).finish

/-- DIST_11 (R234, R109). -/
def execDist11 (s : State) : Host.Outcome State Fault Refusal :=
  (distSymbol 11 s).finish

/-- DIST_12 (R234, R109). -/
def execDist12 (s : State) : Host.Outcome State Fault Refusal :=
  (distSymbol 12 s).finish

/-- DIST_13 (R234, R109). -/
def execDist13 (s : State) : Host.Outcome State Fault Refusal :=
  (distSymbol 13 s).finish

/-- DIST_14 (R234, R109). -/
def execDist14 (s : State) : Host.Outcome State Fault Refusal :=
  (distSymbol 14 s).finish

/-- DIST_15 (R234, R109). -/
def execDist15 (s : State) : Host.Outcome State Fault Refusal :=
  (distSymbol 15 s).finish

/-- DIST_16 (R234, R109). -/
def execDist16 (s : State) : Host.Outcome State Fault Refusal :=
  (distSymbol 16 s).finish

/-- DIST_17 (R234, R109). -/
def execDist17 (s : State) : Host.Outcome State Fault Refusal :=
  (distSymbol 17 s).finish

/-- DIST_18 (R234, R109). -/
def execDist18 (s : State) : Host.Outcome State Fault Refusal :=
  (distSymbol 18 s).finish

/-- DIST_19 (R234, R109). -/
def execDist19 (s : State) : Host.Outcome State Fault Refusal :=
  (distSymbol 19 s).finish

/-- DIST_20 (R234, R109). -/
def execDist20 (s : State) : Host.Outcome State Fault Refusal :=
  (distSymbol 20 s).finish

/-- DIST_21 (R234, R109). -/
def execDist21 (s : State) : Host.Outcome State Fault Refusal :=
  (distSymbol 21 s).finish

/-- DIST_22 (R234, R109). -/
def execDist22 (s : State) : Host.Outcome State Fault Refusal :=
  (distSymbol 22 s).finish

/-- DIST_23 (R234, R109). -/
def execDist23 (s : State) : Host.Outcome State Fault Refusal :=
  (distSymbol 23 s).finish

/-- DIST_24 (R234, R109). -/
def execDist24 (s : State) : Host.Outcome State Fault Refusal :=
  (distSymbol 24 s).finish

/-- DIST_25 (R234, R109). -/
def execDist25 (s : State) : Host.Outcome State Fault Refusal :=
  (distSymbol 25 s).finish

/-- DIST_26 (R234, R109). -/
def execDist26 (s : State) : Host.Outcome State Fault Refusal :=
  (distSymbol 26 s).finish

/-- DIST_27 (R234, R109). -/
def execDist27 (s : State) : Host.Outcome State Fault Refusal :=
  (distSymbol 27 s).finish

/-- DIST_28 (R234, R109). -/
def execDist28 (s : State) : Host.Outcome State Fault Refusal :=
  (distSymbol 28 s).finish

/-- DIST_29 (R234, R109). -/
def execDist29 (s : State) : Host.Outcome State Fault Refusal :=
  (distSymbol 29 s).finish

/-- DIST_ILLEGAL (R234): symbols 30 and 31 are InvalidSymbol. -/
def execDistIllegal (_low : BitVec 1) (s : State) : Host.Outcome State Fault Refusal :=
  (Res.raise .invalidSymbol s).finish

end Sys2Proof.Machine
end

