-- ==== Sys2Proof/Machine/Commands.lean ====
section
/-! DEFINITION. The host commands (46_commands.md): the meanings of the CMDW rows. Each is a CMD write (R341): `onCommand`
ignores it while STATE = BUSY and starts every command from a clean working state. A decompress or unfilter command
leaves STATE = BUSY and the engine decodes its stream element by element; the others are done in this one step. -/

namespace Sys2Proof.Machine

/-! ### Shared operations -/

/-- INFLATE begins (R344, R210): the active input is all of IN. -/
def inflateCommand (s : State) : Res Unit := .ok () (startInflate 0 s.inLen.toNat (s.setFraming .raw))

/-- ZLIB_DECOMPRESS and ZLIB_INFO begin (R240, R345, R346): UnexpectedEnd below six bytes, otherwise the header comes
next. -/
def zlibCommand (f : Framing) (s : State) : Res Unit :=
  if s.inLen.toNat < 6 then .raise .unexpectedEnd (s.setFraming f)
  else .ok () ((s.setFraming f).setRun (.busy .zhdr))

/-- CRC_UPDATE (R350, R143). -/
def crcCommand (s : State) : Res Unit :=
  (readAllIn s).bind fun bs s => .ok () (complete (s.setCrc (crcRun s.crcReg bs)))

/-- ADLER_UPDATE (R352, R150). -/
def adlerCommand (s : State) : Res Unit :=
  (readAllIn s).bind fun bs s =>
    let a := adlerUpdate s.adlerValue bs
    .ok () (complete (s.setAdler (a.extractLsb' 0 16) (a.extractLsb' 16 16)))

/-- An illegal command word (R342). -/
def badCommand (s : State) : Res Unit := .raise .badCommand s

/-! ### Meanings -/

/-- NOP (R343). -/
def execNop (s : State) : Host.Outcome State Fault Refusal :=
  onCommand (fun s => .ok () (complete s)) s

/-- INFLATE (R344). -/
def execInflate (s : State) : Host.Outcome State Fault Refusal :=
  onCommand inflateCommand s

/-- ZLIB_DECOMPRESS (R345). -/
def execZlibDecompress (s : State) : Host.Outcome State Fault Refusal :=
  onCommand (zlibCommand .zlib) s

/-- ZLIB_INFO (R346): ZLIB_DECOMPRESS with the inspection mode on. -/
def execZlibInfo (s : State) : Host.Outcome State Fault Refusal :=
  onCommand (zlibCommand .inspect) s

/-- DEFLATE (R347). -/
def execDeflate (s : State) : Host.Outcome State Fault Refusal :=
  onCommand deflateCommand s

/-- ZLIB_COMPRESS (R348). -/
def execZlibCompress (s : State) : Host.Outcome State Fault Refusal :=
  onCommand zlibCompressCommand s

/-- CRC_INIT (R349, R142). -/
def execCrcInit (s : State) : Host.Outcome State Fault Refusal :=
  onCommand (fun s => .ok () (complete (s.setCrc 0xFFFFFFFF#32))) s

/-- CRC_UPDATE (R350). -/
def execCrcUpdate (s : State) : Host.Outcome State Fault Refusal :=
  onCommand crcCommand s

/-- ADLER_INIT (R351, R149). -/
def execAdlerInit (s : State) : Host.Outcome State Fault Refusal :=
  onCommand (fun s => .ok () (complete (s.setAdler 1#16 0#16))) s

/-- ADLER_UPDATE (R352). -/
def execAdlerUpdate (s : State) : Host.Outcome State Fault Refusal :=
  onCommand adlerCommand s

/-- FILTER (R353). -/
def execFilter (s : State) : Host.Outcome State Fault Refusal :=
  onCommand filterCommand s

/-- UNFILTER (R354). -/
def execUnfilter (s : State) : Host.Outcome State Fault Refusal :=
  onCommand unfilterCommand s

/-- CMD_ILLEGAL_BIT31 (R342): highest set bit of the word is reserved bit 31: BadCommand. -/
def execCmdIllegalBit31 (_low : BitVec 31) (s : State) : Host.Outcome State Fault Refusal :=
  onCommand badCommand s

/-- CMD_ILLEGAL_BIT30 (R342): highest set bit of the word is reserved bit 30: BadCommand. -/
def execCmdIllegalBit30 (_low : BitVec 30) (s : State) : Host.Outcome State Fault Refusal :=
  onCommand badCommand s

/-- CMD_ILLEGAL_BIT29 (R342): highest set bit of the word is reserved bit 29: BadCommand. -/
def execCmdIllegalBit29 (_low : BitVec 29) (s : State) : Host.Outcome State Fault Refusal :=
  onCommand badCommand s

/-- CMD_ILLEGAL_BIT28 (R342): highest set bit of the word is reserved bit 28: BadCommand. -/
def execCmdIllegalBit28 (_low : BitVec 28) (s : State) : Host.Outcome State Fault Refusal :=
  onCommand badCommand s

/-- CMD_ILLEGAL_BIT27 (R342): highest set bit of the word is reserved bit 27: BadCommand. -/
def execCmdIllegalBit27 (_low : BitVec 27) (s : State) : Host.Outcome State Fault Refusal :=
  onCommand badCommand s

/-- CMD_ILLEGAL_BIT26 (R342): highest set bit of the word is reserved bit 26: BadCommand. -/
def execCmdIllegalBit26 (_low : BitVec 26) (s : State) : Host.Outcome State Fault Refusal :=
  onCommand badCommand s

/-- CMD_ILLEGAL_BIT25 (R342): highest set bit of the word is reserved bit 25: BadCommand. -/
def execCmdIllegalBit25 (_low : BitVec 25) (s : State) : Host.Outcome State Fault Refusal :=
  onCommand badCommand s

/-- CMD_ILLEGAL_BIT24 (R342): highest set bit of the word is reserved bit 24: BadCommand. -/
def execCmdIllegalBit24 (_low : BitVec 24) (s : State) : Host.Outcome State Fault Refusal :=
  onCommand badCommand s

/-- CMD_ILLEGAL_BIT23 (R342): highest set bit of the word is reserved bit 23: BadCommand. -/
def execCmdIllegalBit23 (_low : BitVec 23) (s : State) : Host.Outcome State Fault Refusal :=
  onCommand badCommand s

/-- CMD_ILLEGAL_BIT22 (R342): highest set bit of the word is reserved bit 22: BadCommand. -/
def execCmdIllegalBit22 (_low : BitVec 22) (s : State) : Host.Outcome State Fault Refusal :=
  onCommand badCommand s

/-- CMD_ILLEGAL_BIT21 (R342): highest set bit of the word is reserved bit 21: BadCommand. -/
def execCmdIllegalBit21 (_low : BitVec 21) (s : State) : Host.Outcome State Fault Refusal :=
  onCommand badCommand s

/-- CMD_ILLEGAL_BIT20 (R342): highest set bit of the word is reserved bit 20: BadCommand. -/
def execCmdIllegalBit20 (_low : BitVec 20) (s : State) : Host.Outcome State Fault Refusal :=
  onCommand badCommand s

/-- CMD_ILLEGAL_BIT19 (R342): highest set bit of the word is reserved bit 19: BadCommand. -/
def execCmdIllegalBit19 (_low : BitVec 19) (s : State) : Host.Outcome State Fault Refusal :=
  onCommand badCommand s

/-- CMD_ILLEGAL_BIT18 (R342): highest set bit of the word is reserved bit 18: BadCommand. -/
def execCmdIllegalBit18 (_low : BitVec 18) (s : State) : Host.Outcome State Fault Refusal :=
  onCommand badCommand s

/-- CMD_ILLEGAL_BIT17 (R342): highest set bit of the word is reserved bit 17: BadCommand. -/
def execCmdIllegalBit17 (_low : BitVec 17) (s : State) : Host.Outcome State Fault Refusal :=
  onCommand badCommand s

/-- CMD_ILLEGAL_BIT16 (R342): highest set bit of the word is reserved bit 16: BadCommand. -/
def execCmdIllegalBit16 (_low : BitVec 16) (s : State) : Host.Outcome State Fault Refusal :=
  onCommand badCommand s

/-- CMD_ILLEGAL_BIT15 (R342): highest set bit of the word is reserved bit 15: BadCommand. -/
def execCmdIllegalBit15 (_low : BitVec 15) (s : State) : Host.Outcome State Fault Refusal :=
  onCommand badCommand s

/-- CMD_ILLEGAL_BIT14 (R342): highest set bit of the word is reserved bit 14: BadCommand. -/
def execCmdIllegalBit14 (_low : BitVec 14) (s : State) : Host.Outcome State Fault Refusal :=
  onCommand badCommand s

/-- CMD_ILLEGAL_BIT13 (R342): highest set bit of the word is reserved bit 13: BadCommand. -/
def execCmdIllegalBit13 (_low : BitVec 13) (s : State) : Host.Outcome State Fault Refusal :=
  onCommand badCommand s

/-- CMD_ILLEGAL_BIT12 (R342): highest set bit of the word is reserved bit 12: BadCommand. -/
def execCmdIllegalBit12 (_low : BitVec 12) (s : State) : Host.Outcome State Fault Refusal :=
  onCommand badCommand s

/-- CMD_ILLEGAL_BIT11 (R342): highest set bit of the word is reserved bit 11: BadCommand. -/
def execCmdIllegalBit11 (_low : BitVec 11) (s : State) : Host.Outcome State Fault Refusal :=
  onCommand badCommand s

/-- CMD_ILLEGAL_BIT10 (R342): highest set bit of the word is reserved bit 10: BadCommand. -/
def execCmdIllegalBit10 (_low : BitVec 10) (s : State) : Host.Outcome State Fault Refusal :=
  onCommand badCommand s

/-- CMD_ILLEGAL_BIT9 (R342): highest set bit of the word is reserved bit 9: BadCommand. -/
def execCmdIllegalBit9 (_low : BitVec 9) (s : State) : Host.Outcome State Fault Refusal :=
  onCommand badCommand s

/-- CMD_ILLEGAL_BIT8 (R342): highest set bit of the word is reserved bit 8: BadCommand. -/
def execCmdIllegalBit8 (_low : BitVec 8) (s : State) : Host.Outcome State Fault Refusal :=
  onCommand badCommand s

/-- CMD_ILLEGAL_06 (R342): opcodes 0x06..0x07 with bits 31:8 zero: BadCommand. -/
def execCmdIllegal06 (_low : BitVec 1) (s : State) : Host.Outcome State Fault Refusal :=
  onCommand badCommand s

/-- CMD_ILLEGAL_0C (R342): opcodes 0x0C..0x0F with bits 31:8 zero: BadCommand. -/
def execCmdIllegal0C (_low : BitVec 2) (s : State) : Host.Outcome State Fault Refusal :=
  onCommand badCommand s

/-- CMD_ILLEGAL_12 (R342): opcodes 0x12..0x13 with bits 31:8 zero: BadCommand. -/
def execCmdIllegal12 (_low : BitVec 1) (s : State) : Host.Outcome State Fault Refusal :=
  onCommand badCommand s

/-- CMD_ILLEGAL_14 (R342): opcodes 0x14..0x17 with bits 31:8 zero: BadCommand. -/
def execCmdIllegal14 (_low : BitVec 2) (s : State) : Host.Outcome State Fault Refusal :=
  onCommand badCommand s

/-- CMD_ILLEGAL_18 (R342): opcodes 0x18..0x1F with bits 31:8 zero: BadCommand. -/
def execCmdIllegal18 (_low : BitVec 3) (s : State) : Host.Outcome State Fault Refusal :=
  onCommand badCommand s

/-- CMD_ILLEGAL_20 (R342): opcodes 0x20..0x3F with bits 31:8 zero: BadCommand. -/
def execCmdIllegal20 (_low : BitVec 5) (s : State) : Host.Outcome State Fault Refusal :=
  onCommand badCommand s

/-- CMD_ILLEGAL_40 (R342): opcodes 0x40..0x7F with bits 31:8 zero: BadCommand. -/
def execCmdIllegal40 (_low : BitVec 6) (s : State) : Host.Outcome State Fault Refusal :=
  onCommand badCommand s

/-- CMD_ILLEGAL_80 (R342): opcodes 0x80..0xFF with bits 31:8 zero: BadCommand. -/
def execCmdIllegal80 (_low : BitVec 7) (s : State) : Host.Outcome State Fault Refusal :=
  onCommand badCommand s

end Sys2Proof.Machine
end

