-- ==== Sys2Proof/Machine/Dispatch.lean ====
section
/-! DEFINITION. One arm for each constructor of Instr: a direct call of its meaning. -/

namespace Sys2Proof.Machine

open Sys2Proof

/-- The meaning of an instruction whose value has been fetched. -/
def exec (i : Instr) (s : State) : Host.Outcome State Fault Refusal :=
  match i with
  | .zhdr cinfo flevel fcheck => Sys2Proof.Machine.execZhdr cinfo flevel fcheck s
  | .zhdrBadCinfo rest => Sys2Proof.Machine.execZhdrBadCinfo rest s
  | .zhdrBadFdict hi lo => Sys2Proof.Machine.execZhdrBadFdict hi lo s
  | .zhdrBadCm0xxx cinfo cm flevel fcheck => Sys2Proof.Machine.execZhdrBadCm0xxx cinfo cm flevel fcheck s
  | .zhdrBadCm11xx cinfo cm flevel fcheck => Sys2Proof.Machine.execZhdrBadCm11xx cinfo cm flevel fcheck s
  | .zhdrBadCm101x cinfo cm flevel fcheck => Sys2Proof.Machine.execZhdrBadCm101x cinfo cm flevel fcheck s
  | .zhdrBadCm1001 cinfo flevel fcheck => Sys2Proof.Machine.execZhdrBadCm1001 cinfo flevel fcheck s
  | .adler32 adler => Sys2Proof.Machine.execAdler32 adler s
  | .blockStored bfinal => Sys2Proof.Machine.execBlockStored bfinal s
  | .blockFixed bfinal => Sys2Proof.Machine.execBlockFixed bfinal s
  | .blockDynamic bfinal => Sys2Proof.Machine.execBlockDynamic bfinal s
  | .blockReserved bfinal => Sys2Proof.Machine.execBlockReserved bfinal s
  | .stored => Sys2Proof.Machine.execStored s
  | .dynhdr => Sys2Proof.Machine.execDynhdr s
  | .clen c => Sys2Proof.Machine.execClen c s
  | .crep => Sys2Proof.Machine.execCrep s
  | .czeroShort => Sys2Proof.Machine.execCzeroShort s
  | .czeroLong => Sys2Proof.Machine.execCzeroLong s
  | .lit byte => Sys2Proof.Machine.execLit byte s
  | .eob => Sys2Proof.Machine.execEob s
  | .len257 => Sys2Proof.Machine.execLen257 s
  | .len258 => Sys2Proof.Machine.execLen258 s
  | .len259 => Sys2Proof.Machine.execLen259 s
  | .len260 => Sys2Proof.Machine.execLen260 s
  | .len261 => Sys2Proof.Machine.execLen261 s
  | .len262 => Sys2Proof.Machine.execLen262 s
  | .len263 => Sys2Proof.Machine.execLen263 s
  | .len264 => Sys2Proof.Machine.execLen264 s
  | .len265 => Sys2Proof.Machine.execLen265 s
  | .len266 => Sys2Proof.Machine.execLen266 s
  | .len267 => Sys2Proof.Machine.execLen267 s
  | .len268 => Sys2Proof.Machine.execLen268 s
  | .len269 => Sys2Proof.Machine.execLen269 s
  | .len270 => Sys2Proof.Machine.execLen270 s
  | .len271 => Sys2Proof.Machine.execLen271 s
  | .len272 => Sys2Proof.Machine.execLen272 s
  | .len273 => Sys2Proof.Machine.execLen273 s
  | .len274 => Sys2Proof.Machine.execLen274 s
  | .len275 => Sys2Proof.Machine.execLen275 s
  | .len276 => Sys2Proof.Machine.execLen276 s
  | .len277 => Sys2Proof.Machine.execLen277 s
  | .len278 => Sys2Proof.Machine.execLen278 s
  | .len279 => Sys2Proof.Machine.execLen279 s
  | .len280 => Sys2Proof.Machine.execLen280 s
  | .len281 => Sys2Proof.Machine.execLen281 s
  | .len282 => Sys2Proof.Machine.execLen282 s
  | .len283 => Sys2Proof.Machine.execLen283 s
  | .len284 => Sys2Proof.Machine.execLen284 s
  | .len285 => Sys2Proof.Machine.execLen285 s
  | .llIllegal low => Sys2Proof.Machine.execLlIllegal low s
  | .dist0 => Sys2Proof.Machine.execDist0 s
  | .dist1 => Sys2Proof.Machine.execDist1 s
  | .dist2 => Sys2Proof.Machine.execDist2 s
  | .dist3 => Sys2Proof.Machine.execDist3 s
  | .dist4 => Sys2Proof.Machine.execDist4 s
  | .dist5 => Sys2Proof.Machine.execDist5 s
  | .dist6 => Sys2Proof.Machine.execDist6 s
  | .dist7 => Sys2Proof.Machine.execDist7 s
  | .dist8 => Sys2Proof.Machine.execDist8 s
  | .dist9 => Sys2Proof.Machine.execDist9 s
  | .dist10 => Sys2Proof.Machine.execDist10 s
  | .dist11 => Sys2Proof.Machine.execDist11 s
  | .dist12 => Sys2Proof.Machine.execDist12 s
  | .dist13 => Sys2Proof.Machine.execDist13 s
  | .dist14 => Sys2Proof.Machine.execDist14 s
  | .dist15 => Sys2Proof.Machine.execDist15 s
  | .dist16 => Sys2Proof.Machine.execDist16 s
  | .dist17 => Sys2Proof.Machine.execDist17 s
  | .dist18 => Sys2Proof.Machine.execDist18 s
  | .dist19 => Sys2Proof.Machine.execDist19 s
  | .dist20 => Sys2Proof.Machine.execDist20 s
  | .dist21 => Sys2Proof.Machine.execDist21 s
  | .dist22 => Sys2Proof.Machine.execDist22 s
  | .dist23 => Sys2Proof.Machine.execDist23 s
  | .dist24 => Sys2Proof.Machine.execDist24 s
  | .dist25 => Sys2Proof.Machine.execDist25 s
  | .dist26 => Sys2Proof.Machine.execDist26 s
  | .dist27 => Sys2Proof.Machine.execDist27 s
  | .dist28 => Sys2Proof.Machine.execDist28 s
  | .dist29 => Sys2Proof.Machine.execDist29 s
  | .distIllegal low => Sys2Proof.Machine.execDistIllegal low s
  | .filtNone => Sys2Proof.Machine.execFiltNone s
  | .filtSub => Sys2Proof.Machine.execFiltSub s
  | .filtUp => Sys2Proof.Machine.execFiltUp s
  | .filtAverage => Sys2Proof.Machine.execFiltAverage s
  | .filtPaeth => Sys2Proof.Machine.execFiltPaeth s
  | .filtIllegal5or7 mid => Sys2Proof.Machine.execFiltIllegal5or7 mid s
  | .filtIllegal6 => Sys2Proof.Machine.execFiltIllegal6 s
  | .filtIllegal8to15 low => Sys2Proof.Machine.execFiltIllegal8to15 low s
  | .filtIllegal16to31 low => Sys2Proof.Machine.execFiltIllegal16to31 low s
  | .filtIllegal32to63 low => Sys2Proof.Machine.execFiltIllegal32to63 low s
  | .filtIllegal64to127 low => Sys2Proof.Machine.execFiltIllegal64to127 low s
  | .filtIllegal128to255 low => Sys2Proof.Machine.execFiltIllegal128to255 low s
  | .nop => Sys2Proof.Machine.execNop s
  | .inflate => Sys2Proof.Machine.execInflate s
  | .zlibDecompress => Sys2Proof.Machine.execZlibDecompress s
  | .zlibInfo => Sys2Proof.Machine.execZlibInfo s
  | .deflate => Sys2Proof.Machine.execDeflate s
  | .zlibCompress => Sys2Proof.Machine.execZlibCompress s
  | .crcInit => Sys2Proof.Machine.execCrcInit s
  | .crcUpdate => Sys2Proof.Machine.execCrcUpdate s
  | .adlerInit => Sys2Proof.Machine.execAdlerInit s
  | .adlerUpdate => Sys2Proof.Machine.execAdlerUpdate s
  | .filter => Sys2Proof.Machine.execFilter s
  | .unfilter => Sys2Proof.Machine.execUnfilter s
  | .cmdIllegalBit31 low => Sys2Proof.Machine.execCmdIllegalBit31 low s
  | .cmdIllegalBit30 low => Sys2Proof.Machine.execCmdIllegalBit30 low s
  | .cmdIllegalBit29 low => Sys2Proof.Machine.execCmdIllegalBit29 low s
  | .cmdIllegalBit28 low => Sys2Proof.Machine.execCmdIllegalBit28 low s
  | .cmdIllegalBit27 low => Sys2Proof.Machine.execCmdIllegalBit27 low s
  | .cmdIllegalBit26 low => Sys2Proof.Machine.execCmdIllegalBit26 low s
  | .cmdIllegalBit25 low => Sys2Proof.Machine.execCmdIllegalBit25 low s
  | .cmdIllegalBit24 low => Sys2Proof.Machine.execCmdIllegalBit24 low s
  | .cmdIllegalBit23 low => Sys2Proof.Machine.execCmdIllegalBit23 low s
  | .cmdIllegalBit22 low => Sys2Proof.Machine.execCmdIllegalBit22 low s
  | .cmdIllegalBit21 low => Sys2Proof.Machine.execCmdIllegalBit21 low s
  | .cmdIllegalBit20 low => Sys2Proof.Machine.execCmdIllegalBit20 low s
  | .cmdIllegalBit19 low => Sys2Proof.Machine.execCmdIllegalBit19 low s
  | .cmdIllegalBit18 low => Sys2Proof.Machine.execCmdIllegalBit18 low s
  | .cmdIllegalBit17 low => Sys2Proof.Machine.execCmdIllegalBit17 low s
  | .cmdIllegalBit16 low => Sys2Proof.Machine.execCmdIllegalBit16 low s
  | .cmdIllegalBit15 low => Sys2Proof.Machine.execCmdIllegalBit15 low s
  | .cmdIllegalBit14 low => Sys2Proof.Machine.execCmdIllegalBit14 low s
  | .cmdIllegalBit13 low => Sys2Proof.Machine.execCmdIllegalBit13 low s
  | .cmdIllegalBit12 low => Sys2Proof.Machine.execCmdIllegalBit12 low s
  | .cmdIllegalBit11 low => Sys2Proof.Machine.execCmdIllegalBit11 low s
  | .cmdIllegalBit10 low => Sys2Proof.Machine.execCmdIllegalBit10 low s
  | .cmdIllegalBit9 low => Sys2Proof.Machine.execCmdIllegalBit9 low s
  | .cmdIllegalBit8 low => Sys2Proof.Machine.execCmdIllegalBit8 low s
  | .cmdIllegal06 low => Sys2Proof.Machine.execCmdIllegal06 low s
  | .cmdIllegal0C low => Sys2Proof.Machine.execCmdIllegal0C low s
  | .cmdIllegal12 low => Sys2Proof.Machine.execCmdIllegal12 low s
  | .cmdIllegal14 low => Sys2Proof.Machine.execCmdIllegal14 low s
  | .cmdIllegal18 low => Sys2Proof.Machine.execCmdIllegal18 low s
  | .cmdIllegal20 low => Sys2Proof.Machine.execCmdIllegal20 low s
  | .cmdIllegal40 low => Sys2Proof.Machine.execCmdIllegal40 low s
  | .cmdIllegal80 low => Sys2Proof.Machine.execCmdIllegal80 low s

end Sys2Proof.Machine
end

