-- ==== Sys2Proof/Machine/Fetch.lean ====
section
/-! DEFINITION. Fetching the next stream element (30_encoding.md R90 to R99): which format comes next, reading its value
from IN, decoding it, and running its meaning. -/

namespace Sys2Proof.Machine

/-- The format of the element a phase reads (R90). -/
def Phase.format (p : Phase) : Format :=
  match p with
  | .zhdr => .zhdr
  | .blk => .blk
  | .stored => .stored
  | .dynhdr => .dynhdr
  | .clsym => .clsym
  | .llsym => .llsym
  | .dsym => .dsym
  | .trailer => .ztrl
  | .scanline => .scanline

/-- The zlib header's number CMF * 256 + FLG, from IN[0] and IN[1] (R91). -/
def fetchHeader (s : State) : Res Nat :=
  (readIn .unexpectedEnd 0 s).bind fun cmf s =>
    (readIn .unexpectedEnd 1 s).bind fun flg s => .ok (cmf.toNat * 256 + flg.toNat) s

/-- The zlib trailer: the last four bytes of IN, most significant first (R92, R242). -/
def fetchTrailer (s : State) : Res Nat :=
  (readInBytes .unexpectedEnd (s.inLen.toNat - 4) 4 s).bind fun bs s =>
    .ok (bs.foldl (fun acc b => acc * 256 + b.toNat) 0) s

/-- The filter byte of a scanline, into F (R308). -/
def fetchFilter (s : State) : Res Nat :=
  (readIn .lengthMismatch s.work.line.pos s).bind fun b s =>
    .ok b.toNat ((s.setRegs { s.work.regs with f := b }).setLine { s.work.line with pos := s.work.line.pos + 1 })

/-- A literal/length symbol, into SYM (R230). -/
def fetchSymbol (s : State) : Res Nat :=
  (decodeSymbol s.work.tabs.ll s).bind fun v s =>
    .ok v (s.setRegs { s.work.regs with sym := BitVec.ofNat 9 v })

/-- A distance symbol, into DSYM (R234). -/
def fetchDistance (s : State) : Res Nat :=
  (decodeSymbol s.work.tabs.d s).bind fun v s =>
    .ok v (s.setRegs { s.work.regs with dsym := BitVec.ofNat 5 v })

/-- The value of the element that comes next, numbered as R119 numbers it, read from IN. STORED and DYNHDR have no
value: their meanings read their bodies. -/
def fetchValue (p : Phase) (s : State) : Res Nat :=
  match p with
  | .zhdr => fetchHeader s
  | .blk => readBits 3 s
  | .stored => .ok 0 s
  | .dynhdr => .ok 0 s
  | .clsym => decodeSymbol s.work.tabs.cl s
  | .llsym => fetchSymbol s
  | .dsym => fetchDistance s
  | .trailer => fetchTrailer s
  | .scanline => fetchFilter s

/-- The element that comes next. -/
def fetch (p : Phase) (s : State) : Res Instr :=
  (fetchValue p s).bind fun v s =>
    match decode p.format v with
    | some i => .ok i s
    | none => .refuse .noElement

/-- The engine decodes and executes one stream element. -/
def engineStep (p : Phase) (s : State) : Host.Outcome State Fault Refusal :=
  match fetch p s with
  | .ok i s => exec i s
  | .raise k s => .next (raiseError k s)
  | .refuse r => .refused r

/-- The engine's step when the host does nothing: one element while a command runs, nothing otherwise (R20, R412). -/
def idleOrEngine (s : State) : Host.Outcome State Fault Refusal :=
  match s.run with
  | .busy p => engineStep p s
  | .idle => .next s
  | .done => .next s
  | .error => .next s

end Sys2Proof.Machine
end

