-- ==== Sys2Proof/Machine/HostPort.lean ====
section
/-! DEFINITION. The host's side of the block (10_state.md R20, R29; 46_commands.md R340; 70_reset_and_hazards.md R410,
R411, R420, R421): what each action of the host does. The host's pending actions stand in State as a list; a step takes
the first one. -/

namespace Sys2Proof.Machine

/-- A write to CMD (R27, R341): the word is decoded and the command's meaning runs. -/
def writeCmd (v : Word) (s : State) : Host.Outcome State Fault Refusal :=
  match decode .cmdw v.toNat with
  | some i => exec i s
  | none => .refused .noElement

/-- Whether the register at this offset is a result register, whose value is unspecified while STATE = BUSY (R421). -/
def isResultReg (off : Nat) : Bool := [0x08, 0x0C, 0x14, 0x40, 0x44, 0x48].contains off

/-- Draw a free value. -/
def State.drawn (s : State) : State := { s with freeCtr := s.freeCtr + 1 }

/-- A register read by the host (R29); its value is latched as the host's last read. -/
def hostReadReg (off : Nat) (s : State) : State :=
  let s' := { s with hostData := s.readReg off }
  if s.isBusy && isResultReg off then s'.drawn else s'

/-- A byte put into IN by the host (R41); not while STATE = BUSY (R421), and not beyond the capacity. -/
def hostWriteIn (i : Nat) (b : Byte) (s : State) : Host.Outcome State Fault Refusal :=
  if s.params.inCap.toNat ≤ i then .fault .noSuchByte
  else if s.isBusy then .refused .hostRace
  else .next { s with inBuf := s.inBuf.write i b }

/-- A byte put into AUX by the host (R41); not while STATE = BUSY (R421), and not beyond the capacity. -/
def hostWriteAux (i : Nat) (b : Byte) (s : State) : Host.Outcome State Fault Refusal :=
  if s.params.auxCap.toNat ≤ i then .fault .noSuchByte
  else if s.isBusy then .refused .hostRace
  else .next { s with auxBuf := s.auxBuf.write i b }

/-- A byte of OUT read by the host (R41, R60): unspecified while STATE = BUSY (R421) and at or beyond OUT_LEN
(93 U1, U2). -/
def hostReadOut (i : Nat) (s : State) : Host.Outcome State Fault Refusal :=
  if s.params.outCap.toNat ≤ i then .fault .noSuchByte
  else
    match (if s.isBusy then none else if i < s.outLen.toNat then s.outBuf.read i else none) with
    | some b => .next { s with hostData := b.zeroExtend 32 }
    | none =>
      .next { s with hostData := ((Config.freeWord s.freeCtr).extractLsb' 0 8).zeroExtend 32 }.drawn

/-- The hardware reset (R410, R411): the state of R53, whatever was running. The model's own fields keep what is not
the block's: the parameters, the host's further actions and the counter of free values. -/
def hostReset (s : State) : State :=
  { State.reset with params := s.params, host := s.host, freeCtr := s.freeCtr }

/-- One action of the host; the state it is given no longer lists the action. -/
def hostStep (op : HostOp) (s : State) : Host.Outcome State Fault Refusal :=
  match op with
  | .writeReg off v => if off = 0 then writeCmd v s else .next (s.writeReg off v)
  | .readReg off => .next (hostReadReg off s)
  | .writeIn i b => hostWriteIn i b s
  | .writeAux i b => hostWriteAux i b s
  | .readOut i => hostReadOut i s
  | .tick => idleOrEngine s
  | .poll => .next s
  | .reset => .next (hostReset s)

/-- One step of the block with its host: the host's next action; while it polls and STATE = BUSY (R340 item 3), and
when it has nothing more to do, the engine. -/
def stepWithHost (s : State) : Host.Outcome State Fault Refusal :=
  match s.host with
  | [] => idleOrEngine s
  | .poll :: rest => if s.isBusy then idleOrEngine s else .next (s.setHost rest)
  | op :: rest => hostStep op (s.setHost rest)

end Sys2Proof.Machine
end

