-- ==== Sys2Proof/Machine/Step.lean ====
section
/-! DEFINITION. The step of the machine, and the placing of one instruction where the next step runs it. -/

namespace Sys2Proof.Machine

/-- One step. -/
def step (s : State) : Host.Outcome State Fault Refusal := stepWithHost s

namespace State

/-- Let the engine act next: it runs phase `p` and the host only lets it tick. -/
def readyFor (s : State) (p : Phase) : State := (s.setRun (.busy p)).setHost (.tick :: s.host)

/-- IN holds exactly these bytes, and the bit reader stands at their first bit. -/
def withInput (s : State) (bs : List Byte) : State :=
  ({ s with inBuf := Memory.ofBytes 0 bs, inLen := BitVec.ofNat 31 bs.length }).setReader
    { bitpos := 0, base := 0, size := bs.length }

/-- The fixed tables are loaded (R216). -/
def withFixedTables (s : State) : State := s.setTabs { s.work.tabs with ll := fixedLL, d := fixedD }

/-- The input whose first bits are one code word, with zeros behind it up to `n` bytes. -/
def codeInput (T : HuffTable) (sym n : Nat) : List Byte :=
  finalize (codeBits T sym ++ List.replicate (8 * n - T.len.getD sym 0) false)

/-- The state whose next step runs the instruction a table word stands for (log entry 3): a command word is the host's
next action; a stream element is what the engine, made busy with it, reads next from IN. -/
def withFetchWord (s : State) (nbits w : Nat) : State :=
  match tableFormat nbits w with
  | none => s
  | some .cmdw => (if s.isBusy then s.setRun .idle else s).setHost (.writeReg 0 (BitVec.ofNat 32 w) :: s.host)
  | some .zhdr =>
    (s.withInput [BitVec.ofNat 8 (w / 256), BitVec.ofNat 8 w, 0#8, 0#8, 0#8, 0#8]).readyFor .zhdr
  | some .ztrl => (s.withInput (bigEndian (BitVec.ofNat 32 w))).readyFor .trailer
  | some .blk => (s.withInput [BitVec.ofNat 8 w, 0#8, 0#8, 0#8]).readyFor .blk
  | some .stored => (s.withInput (List.replicate 8 0#8)).readyFor .stored
  | some .dynhdr => (s.withInput (List.replicate 16 0#8)).readyFor .dynhdr
  | some .clsym => s.readyFor .clsym
  | some .llsym => ((s.withInput (codeInput fixedLL w 4)).withFixedTables).readyFor .llsym
  | some .dsym => ((s.withInput (codeInput fixedD w 4)).withFixedTables).readyFor .dsym
  | some .scanline =>
    let s := s.withInput (BitVec.ofNat 8 w :: List.replicate 7 0#8)
    (s.setLine { s.work.line with pos := 0 }).readyFor .scanline

end State

end Sys2Proof.Machine
end

