-- ==== Sys2Proof/Safety.lean ====
section
/-! DEFINITION. The terms the claims are stated in: what the host's part of the state is, what a readable field of the
input is, the register map's implemented bits, canonical Huffman codes as bit strings, and the invariant of the machine.
Nothing here is part of the machine. -/

namespace Sys2Proof.Machine

/-! ### Registers -/

/-- The bits of the register at a byte offset that a host write stores (10_state.md R28 to R36); none for CMD, for a
read-only register and for a reserved offset. -/
def implementedBits (off : Nat) : Word :=
  if off = 0x10 then 0x7FFFFFFF#32
  else if off = 0x18 then 0x7FFFFFFF#32
  else if off = 0x20 then 0x00000001#32
  else if off = 0x24 then 0x0000000F#32
  else if off = 0x28 then 0x0001FFFF#32
  else if off = 0x2C then 0x000001FF#32
  else if off = 0x30 then 0x000001FF#32
  else if off = 0x34 then 0x00001FFF#32
  else if off = 0x38 then 0x7FFFFFFF#32
  else if off = 0x3C then 0x7FFFFFFF#32
  else 0#32

/-! ### Frames -/

/-- `t` is `s` but for what a stream element may write: STATE, the error registers, OUT and OUT_LEN, INFO and the working
state. Every register the host writes, both running checksums, IN and AUX and the model's own fields are as they were. -/
def State.engineFrame (s t : State) : Prop :=
  t = { s with
    run := t.run, errKind := t.errKind, errCode := t.errCode, outLen := t.outLen, outBuf := t.outBuf, info := t.info
    work := t.work }

/-- The registers and buffers the host owns, and the model's parameters: what no command changes
(46_commands.md R341). -/
def State.hostSide (s t : State) : Prop :=
  t.inLen = s.inLen ∧ t.auxLen = s.auxLen ∧ t.cfgInflate = s.cfgInflate ∧ t.cfgDeflate = s.cfgDeflate ∧
    t.windowSize = s.windowSize ∧ t.minMatch = s.minMatch ∧ t.niceMatch = s.niceMatch ∧ t.cfgFilter = s.cfgFilter ∧
    t.width = s.width ∧ t.height = s.height ∧ t.inBuf = s.inBuf ∧ t.auxBuf = s.auxBuf ∧ t.params = s.params ∧
    t.host = s.host ∧ t.hostData = s.hostData

/-- Every byte of OUT below `n` reads in `t` as in `s`. -/
def State.sameOutBelow (n : Nat) (s t : State) : Prop := ∀ a, a < n → t.outBuf.read a = s.outBuf.read a

/-- OUT of `t` is OUT of `s` with the bytes `bs` appended: the bytes stored, every other byte as it was, and OUT_LEN. -/
def State.appended (s t : State) (bs : List Byte) : Prop :=
  t.outLen.toNat = s.outLen.toNat + bs.length ∧
    (∀ i, i < bs.length → t.outBuf.read (s.outLen.toNat + i) = bs[i]?) ∧
    (∀ a, a < s.outLen.toNat ∨ s.outLen.toNat + bs.length ≤ a → t.outBuf.read a = s.outBuf.read a)

/-- What a raise of `k` leaves (60_exceptions.md R380), all else as in `s`; the bytes of OUT are unspecified. -/
def State.raised (k : ErrKind) (s t : State) : Prop :=
  t = { s with
    run := .error, errKind := some k, errCode := errcodeOf k, outLen := 0#31, info := [], outBuf := t.outBuf
    work := t.work }

/-- What an accepted command that ends with the error `k` leaves (46_commands.md R341, 60_exceptions.md R380). -/
def State.commandFailed (k : ErrKind) (s t : State) : Prop :=
  t = { s with
    run := .error, errKind := some k, errCode := errcodeOf k, outLen := 0#31, info := [], outBuf := t.outBuf
    work := t.work, freeCtr := s.freeCtr + 1 }

/-- What an accepted command that completes at once leaves, but for its results (46_commands.md R341). -/
def State.commandDone (s t : State) : Prop :=
  t = { s with
    run := .done, errKind := none, errCode := 0#32, info := [], outLen := t.outLen, outBuf := t.outBuf
    crcReg := t.crcReg, adlerS1 := t.adlerS1, adlerS2 := t.adlerS2, work := t.work, freeCtr := s.freeCtr + 1 }

/-- A command can start: STATE is not BUSY and the lengths are within the capacities. -/
def State.canLaunch (s : State) : Prop :=
  s.isBusy = false ∧ s.inLen.toNat ≤ s.params.inCap.toNat ∧ s.auxLen.toNat ≤ s.params.auxCap.toNat

/-- IN[0..IN_LEN) is `data`. -/
def State.inputIs (s : State) (data : List Byte) : Prop := s.inBuf.bytes 0 s.inLen.toNat = some data

/-! ### The bits of the input -/

/-- The next `n` bits of the active input exist and are the number `v`, first bit least significant (00_scope.md R11,
40_bitio_checksums.md R131). -/
def State.nextField (s : State) (n v : Nat) : Prop :=
  s.work.rd.bitpos + n ≤ s.inputBits ∧ streamField s s.work.rd.bitpos n = some v

/-- The next bits of the active input are exactly `bits`, in this order. -/
def State.nextBits (s : State) (bits : List Bool) : Prop :=
  s.work.rd.bitpos + bits.length ≤ s.inputBits ∧
    ∀ i, i < bits.length → streamBit s (s.work.rd.bitpos + i) = bits[i]?

/-! ### Codes -/

/-- Symbol `s` of the table has a code word. -/
def HuffTable.used (T : HuffTable) (s : Nat) : Prop := T.len.getD s 0 ≠ 0

/-- The code word of symbol `s`, in stream order (30_encoding.md R101). -/
def HuffTable.word (T : HuffTable) (s : Nat) : List Bool := codeBits T s

/-- No code word is the beginning of another symbol's (41_huffman.md R164 (b)). -/
def HuffTable.noWordBeginsAnother (T : HuffTable) : Prop :=
  ∀ a b, T.used a → T.used b → a ≠ b → ¬ T.word a <+: T.word b

/-- Every code is a number of as many bits as its length, and there is a code for each length (10_state.md R44). -/
def HuffTable.sound (T : HuffTable) : Prop :=
  T.code.length = T.len.length ∧ ∀ s, T.used s → T.code.getD s 0 < 2 ^ T.len.getD s 0

/-! ### The rows of the length, distance, filter and illegal elements -/

/-- The length elements with LBASE and LEXTRA (30_encoding.md R108). -/
def lengthRows : List (Instr × Nat × Nat) :=
  [(.len257, 3, 0), (.len258, 4, 0), (.len259, 5, 0), (.len260, 6, 0), (.len261, 7, 0), (.len262, 8, 0),
   (.len263, 9, 0), (.len264, 10, 0), (.len265, 11, 1), (.len266, 13, 1), (.len267, 15, 1), (.len268, 17, 1),
   (.len269, 19, 2), (.len270, 23, 2), (.len271, 27, 2), (.len272, 31, 2), (.len273, 35, 3), (.len274, 43, 3),
   (.len275, 51, 3), (.len276, 59, 3), (.len277, 67, 4), (.len278, 83, 4), (.len279, 99, 4), (.len280, 115, 4),
   (.len281, 131, 5), (.len282, 163, 5), (.len283, 195, 5), (.len284, 227, 5), (.len285, 258, 0)]

/-- The distance elements with DBASE and DEXTRA (30_encoding.md R109). -/
def distanceRows : List (Instr × Nat × Nat) :=
  [(.dist0, 1, 0), (.dist1, 2, 0), (.dist2, 3, 0), (.dist3, 4, 0), (.dist4, 5, 1), (.dist5, 7, 1), (.dist6, 9, 2),
   (.dist7, 13, 2), (.dist8, 17, 3), (.dist9, 25, 3), (.dist10, 33, 4), (.dist11, 49, 4), (.dist12, 65, 5),
   (.dist13, 97, 5), (.dist14, 129, 6), (.dist15, 193, 6), (.dist16, 257, 7), (.dist17, 385, 7), (.dist18, 513, 8),
   (.dist19, 769, 8), (.dist20, 1025, 9), (.dist21, 1537, 9), (.dist22, 2049, 10), (.dist23, 3073, 10),
   (.dist24, 4097, 11), (.dist25, 6145, 11), (.dist26, 8193, 12), (.dist27, 12289, 12), (.dist28, 16385, 13),
   (.dist29, 24577, 13)]

/-- The scanline elements with their filter types (45_filter.md R302 to R307). -/
def filterRowsOf : List (Instr × Nat) :=
  [(.filtNone, 0), (.filtSub, 1), (.filtUp, 2), (.filtAverage, 3), (.filtPaeth, 4)]

/-- The error an element that is illegal by itself raises (30_encoding.md R114), none for the others. -/
def illegalKind (i : Instr) : Option ErrKind :=
  match i with
  | .zhdrBadCinfo _ => some .badZlibHeader
  | .zhdrBadFdict _ _ => some .badZlibHeader
  | .zhdrBadCm0xxx _ _ _ _ => some .badZlibHeader
  | .zhdrBadCm11xx _ _ _ _ => some .badZlibHeader
  | .zhdrBadCm101x _ _ _ _ => some .badZlibHeader
  | .zhdrBadCm1001 _ _ _ => some .badZlibHeader
  | .blockReserved _ => some .invalidBlock
  | .llIllegal _ => some .invalidSymbol
  | .distIllegal _ => some .invalidSymbol
  | .filtIllegal5or7 _ => some .invalidFilterType
  | .filtIllegal6 => some .invalidFilterType
  | .filtIllegal8to15 _ => some .invalidFilterType
  | .filtIllegal16to31 _ => some .invalidFilterType
  | .filtIllegal32to63 _ => some .invalidFilterType
  | .filtIllegal64to127 _ => some .invalidFilterType
  | .filtIllegal128to255 _ => some .invalidFilterType
  | _ => none

/-- The opcodes of 30_encoding.md R120. -/
def opcodes : List Nat := [0x00, 0x01, 0x02, 0x03, 0x04, 0x05, 0x08, 0x09, 0x0A, 0x0B, 0x10, 0x11]

/-! ### Blocks and code lengths -/

/-- How a block's end goes on (43_inflate.md R210, R240): another header, the end of the command, or the trailer. -/
def State.goesOn (s t : State) : Prop :=
  (s.work.regs.bfinal = 0#1 → t.run = .busy .blk ∧ t.errKind = s.errKind ∧ t.errCode = s.errCode) ∧
    (s.work.regs.bfinal = 1#1 → s.work.framing = .raw → t.run = .done ∧ t.errKind = none ∧ t.errCode = 0#32) ∧
    (s.work.regs.bfinal = 1#1 → s.work.framing ≠ .raw →
      t.run = .busy .trailer ∧ t.errKind = s.errKind ∧ t.errCode = s.errCode)

/-- What the block's end adds to INFO (43_inflate.md R250), when it ends at bit `bits` with `bytes` bytes in OUT: nothing
outside the inspection mode, and one record inside it. -/
def State.recorded (s t : State) (bits bytes : Nat) : Prop :=
  (s.work.framing ≠ .inspect → t.info = s.info) ∧
    (s.work.framing = .inspect → ∃ r : BlockInfo, t.info = s.info ++ [r] ∧
      r.btype = s.work.regs.btype.toNat ∧ r.compressedBits = bits - s.work.insp.startBit ∧
      r.uncompressedBytes = bytes - s.work.insp.startOut ∧ r.treeBits = s.work.insp.treeBits ∧
      r.symbols = s.work.insp.symsRev.reverse ∧
      (s.work.regs.btype = 2#2 →
        r.hlit = s.work.regs.hlit.toNat ∧ r.hdist = s.work.regs.hdist.toNat ∧ r.hclen = s.work.regs.hclen.toNat ∧
          r.clLengths = s.work.tabs.cl.len ∧ r.llLengths = s.work.tabs.lens.take s.work.regs.hlit.toNat ∧
          r.dLengths = (s.work.tabs.lens.drop s.work.regs.hlit.toNat).take s.work.regs.hdist.toNat) ∧
      (s.work.regs.btype ≠ 2#2 →
        r.hlit = 0 ∧ r.hdist = 0 ∧ r.hclen = 0 ∧ r.clLengths = [] ∧ r.llLengths = [] ∧ r.dLengths = []))

/-- The literal/length lengths of a finished code-length sequence (43_inflate.md R226). -/
def State.llLengths (s : State) (lens : List Nat) : List Nat := padTo Config.numLL (lens.take s.work.regs.hlit.toNat)

/-- The distance lengths of a finished code-length sequence (43_inflate.md R226). -/
def State.dLengths (s : State) (lens : List Nat) : List Nat := padTo Config.numD (lens.drop s.work.regs.hlit.toNat)

/-- The tables of a finished code-length sequence are legal (43_inflate.md R226, R227; 41_huffman.md R163). -/
def State.treesLegal (s : State) (lens : List Nat) : Prop :=
  (s.llLengths lens).getD 256 0 ≠ 0 ∧ kraftSum 15 (s.llLengths lens) ≤ 2 ^ 15 ∧ kraftSum 15 (s.dLengths lens) ≤ 2 ^ 15

/-- The code-length loop after an element of `bits` bits has produced the lengths `new` (43_inflate.md R222, R226). -/
def State.lengthsProduced (s t : State) (bits : Nat) (new : List Nat) : Prop :=
  let lens := s.work.tabs.lens ++ new
  (lens.length < s.lensWanted →
    t = { s with
      run := .busy .clsym
      work := { s.work with
        rd := { s.work.rd with bitpos := s.work.rd.bitpos + bits }
        regs := { s.work.regs with cli := BitVec.ofNat 9 lens.length }
        tabs := { s.work.tabs with lens := lens } } }) ∧
  (lens.length = s.lensWanted → s.treesLegal lens →
    t = { s with
      run := .busy .llsym
      work := { s.work with
        rd := { s.work.rd with bitpos := s.work.rd.bitpos + bits }
        regs := { s.work.regs with cli := BitVec.ofNat 9 lens.length }
        tabs := { s.work.tabs with
          lens := lens, ll := buildCodes 15 (s.llLengths lens), d := buildCodes 15 (s.dLengths lens) }
        insp := { s.work.insp with treeBits := s.work.rd.bitpos + bits - (s.work.insp.startBit + 3) } } }) ∧
  (lens.length = s.lensWanted → ¬ s.treesLegal lens → s.raised .invalidTree t)

/-! ### Configurations -/

/-- A legal compressor configuration (44_deflate.md R261). -/
def State.deflateLegal (s : State) : Prop :=
  (∃ k, 8 ≤ k ∧ k ≤ 15 ∧ s.windowSize.toNat = 2 ^ k) ∧ s.btypeLimit ≠ 3 ∧
    (3 ≤ s.minMatch.toNat ∧ s.minMatch.toNat ≤ 258) ∧ (3 ≤ s.niceMatch.toNat ∧ s.niceMatch.toNat ≤ 258)

/-- A legal image configuration (45_filter.md R322), but for STRATEGY. -/
def State.imageLegal (s : State) : Prop :=
  (s.bitDepth, s.colorType) ∈
      [(1, 0), (2, 0), (4, 0), (8, 0), (16, 0), (8, 2), (16, 2), (1, 3), (2, 3), (4, 3), (8, 3), (8, 4), (16, 4),
        (8, 6), (16, 6)] ∧
    1 ≤ s.width.toNat ∧ 1 ≤ s.height.toNat

/-! ### Match finding -/

/-- Chains as the inserts of positions below `n` leave them: a chain goes from a position to an earlier one
(42_lz77_matchfinder.md R196). -/
def Chains.below (t : Chains) (n : Nat) : Prop :=
  (∀ e ∈ t.head, e.2 < n) ∧ ∀ e ∈ t.prev, e.2 < e.1 ∧ e.1 < n

/-! ### Scanlines -/

/-- Entry `i - d` of a line, 0 before its start. -/
def backByte (line : List Byte) (i d : Nat) : Byte := if d ≤ i then line.getD (i - d) 0#8 else 0#8

/-- `f` is the smallest of the filter types 0 to 4 with the least score. -/
def leastScore (score : Nat → Nat) (f : Nat) : Prop :=
  f ≤ 4 ∧ ∀ g, g ≤ 4 → score f ≤ score g ∧ (g < f → score f < score g)

/-- `f` is the smallest of the filter types 0 to 4 whose line has the least entropy over the reals, in the integer form
of 45_filter.md R315. -/
def leastEntropy (candidate : Nat → List Byte) (f : Nat) : Prop :=
  f ≤ 4 ∧ ∀ g, g ≤ 4 → histogramWeight (candidate g) ≤ histogramWeight (candidate f) ∧
    (g < f → histogramWeight (candidate g) < histogramWeight (candidate f))

/-- What the entropy strategy chooses under an arithmetic that is not exact (45_filter.md R315, 93 U14; log entry 14): the
least entropy as that arithmetic evaluates it, where the arithmetic agrees with exact reals on these candidates, and the
least over the reals otherwise; in either case no candidate's entropy is lower by more than the error of the arithmetic,
and no earlier candidate has the same histogram. -/
def leastEvaluated (candidate : Nat → List Byte) (f : Nat) : Prop :=
  f ≤ 4 ∧
    ((∀ g h, g ≤ 4 → h ≤ 4 → clearlyLower (candidate g) (candidate h) = true →
        Config.freeEntropy (histogram (candidate g)) < Config.freeEntropy (histogram (candidate h))) →
      leastScore (fun g => Config.freeEntropy (histogram (candidate g))) f) ∧
    (∀ g h, g ≤ 4 → h ≤ 4 → clearlyLower (candidate g) (candidate h) = true →
      Config.freeEntropy (histogram (candidate h)) ≤ Config.freeEntropy (histogram (candidate g)) →
      leastEntropy candidate f) ∧
    ∀ g, g ≤ 4 → clearlyLower (candidate g) (candidate f) = false ∧
      (g < f → histogram (candidate g) ≠ histogram (candidate f))

/-- The AUX byte of scanline `k` is there and is a filter type (45_filter.md R317, R309). -/
def State.auxLegal (s : State) (k : Nat) : Prop := ∃ b, s.auxBuf.read k = some b ∧ b.toNat ≤ 4

/-- `f` is the filter type `choose_filter` gives scanline `k` of the command, whose candidates are given
(45_filter.md R311 to R317). -/
def State.picks (s : State) (k : Nat) (candidate : Nat → List Byte) (f : Nat) : Prop :=
  f ≤ 4 ∧ (s.effectiveStrategy = 0 → f = 0) ∧
    (s.effectiveStrategy = 1 → leastScore (fun g => sumScore (candidate g)) f) ∧
    (s.effectiveStrategy = 2 → s.params.entropy = .reference → leastEntropy candidate f) ∧
    (s.effectiveStrategy = 2 → s.params.entropy = .free → leastEvaluated candidate f) ∧
    (s.effectiveStrategy = 3 → leastScore (fun g => Config.bruteSize (candidate g)) f) ∧
    (s.effectiveStrategy = 4 → s.auxBuf.read k = some (BitVec.ofNat 8 f))

/-- A scanline with the one before it. -/
structure Scanline where
  raw   : List Byte
  prior : List Byte
  deriving DecidableEq, Repr

/-- The `h` scanlines of `n` bytes at the start of `data`, the first after `prior` (45_filter.md R321). -/
def scanlines (n h : Nat) (prior data : List Byte) : List Scanline :=
  match h with
  | 0 => []
  | k + 1 => { raw := data.take n, prior := prior } :: scanlines n k (data.take n) (data.drop n)

/-- The scanlines of the passes `ps`, whose raw images follow one another in `data`; each pass starts after a line of
zeros (45_filter.md R321). -/
def State.passScanlines (s : State) (ps : List Nat) (data : List Byte) : List Scanline :=
  match ps with
  | [] => []
  | p :: rest =>
    scanlines (s.passLine p) (s.dims p).2 (List.replicate (s.passLine p) 0#8) data ++
      s.passScanlines rest (data.drop ((s.dims p).2 * s.passLine p))

/-- A scanline filtered by type `f`, behind its filter byte. -/
def Scanline.filtered (l : Scanline) (bw f : Nat) : List Byte := BitVec.ofNat 8 f :: filterLine f bw l.raw l.prior

/-- The bytes the first `i` scanlines put into OUT. -/
def bytesOfFirst (i : Nat) (lines : List Scanline) : Nat := ((lines.take i).map fun l => l.raw.length + 1).sum

/-! ### The invariant -/

/-- The tables the symbol loop decodes with have the sizes of R44. -/
def State.tablesOk (s : State) : Prop :=
  s.work.tabs.ll.len.length = Config.numLL ∧ s.work.tabs.ll.code.length = Config.numLL ∧
    s.work.tabs.d.len.length = Config.numD ∧ s.work.tabs.d.code.length = Config.numD

/-- The active input lies inside IN[0..IN_LEN) and, under the zlib commands, ends before the trailer (R22, R242). -/
def State.readerOk (s : State) : Prop :=
  s.work.rd.base + s.work.rd.size ≤ s.inLen.toNat ∧ (s.work.framing ≠ .raw → 6 ≤ s.inLen.toNat)

/-- The counters of the code-length loop (R220, R222, R45). -/
def State.lengthsInProgress (s : State) : Prop :=
  257 ≤ s.work.regs.hlit.toNat ∧ s.work.regs.hlit.toNat ≤ 288 ∧ 1 ≤ s.work.regs.hdist.toNat ∧
    s.work.regs.hdist.toNat ≤ 32 ∧ s.work.tabs.lens.length = s.work.regs.cli.toNat ∧
    s.work.regs.cli.toNat < s.lensWanted ∧ s.work.tabs.cl.len.length = Config.numCL ∧
    s.work.tabs.cl.code.length = Config.numCL

/-- The counters of UNFILTER between two scanlines (R321). -/
def State.lineInProgress (s : State) : Prop :=
  filterConfigError false s = none ∧ s.work.regs.pass.toNat ∈ s.usedPasses ∧
    s.work.regs.row.toNat < (s.dims s.work.regs.pass.toNat).2 ∧
    s.work.regs.linebytes.toNat = s.passLine s.work.regs.pass.toNat ∧
    s.work.regs.bytewidth.toNat = byteWidth s.bitsPerPixel ∧
    s.work.line.prior.length = s.passLine s.work.regs.pass.toNat

/-- What holds while the engine is about to decode an element in phase `p`. -/
def State.phaseOk (s : State) (p : Phase) : Prop :=
  match p with
  | .zhdr => s.work.framing ≠ .raw ∧ 6 ≤ s.inLen.toNat
  | .blk => s.readerOk
  | .stored => s.readerOk
  | .dynhdr => s.readerOk
  | .clsym => s.readerOk ∧ s.lengthsInProgress
  | .llsym => s.readerOk ∧ s.tablesOk
  | .dsym => s.readerOk ∧ s.tablesOk ∧ 3 ≤ s.work.regs.length.toNat ∧ s.work.regs.length.toNat ≤ 258
  | .trailer => s.work.framing ≠ .raw ∧ 6 ≤ s.inLen.toNat
  | .scanline => s.lineInProgress

/-- The invariant of the machine. -/
structure State.Inv (s : State) : Prop where
  /-- IN is in canonical form -/
  inWf : s.inBuf.wf = true
  /-- AUX is in canonical form -/
  auxWf : s.auxBuf.wf = true
  /-- OUT holds a byte at each index below OUT_LEN and lists nothing else (R41), hence is in canonical form -/
  outCells : s.outBuf.map Prod.fst = List.range s.outLen.toNat
  /-- OUT_LEN never exceeds OUT_CAP (R63) -/
  outFits : s.outLen.toNat ≤ s.params.outCap.toNat
  /-- both Adler-32 halves are reduced (R146) -/
  adlerReduced : s.adlerS1.toNat < Config.adlerMod ∧ s.adlerS2.toNat < Config.adlerMod
  /-- BITPOS does not pass the end of the active input (R22); after reset, where R53 leaves BITPOS unspecified, both are
  0 (DESIGN CHOICE, log entry 1) -/
  cursor : s.work.rd.bitpos ≤ s.inputBits
  /-- ERRKIND and ERRCODE name the same error (R26, R372) -/
  errorPair : s.errCode = (match s.errKind with | none => 0#32 | some k => errcodeOf k)
  /-- IDLE: no command has run since reset (R25, R53); that INFO is then empty is the model's choice, since R53 leaves
  it unspecified (DESIGN CHOICE, log entry 1) -/
  idleClean : s.run = .idle → s.errKind = none ∧ s.outLen = 0#31 ∧ s.info = []
  /-- DONE: the last command did not fail (R341) -/
  doneClean : s.run = .done → s.errKind = none
  /-- ERROR: a kind is recorded, no output is exposed and INFO is empty (R380) -/
  errorClean : s.run = .error → s.errKind ≠ none ∧ s.outLen = 0#31 ∧ s.info = []
  /-- InvalidPaeth and BadCrc are never raised (R376, R377) -/
  neverRaised : s.errKind ≠ some .invalidPaeth ∧ s.errKind ≠ some .badCrc
  /-- only the inspection mode writes INFO (R50) -/
  infoOnlyInspect : s.info ≠ [] → s.work.framing = .inspect
  /-- what the running command has set up for the element that comes next -/
  phase : ∀ p, s.run = .busy p → s.phaseOk p

end Sys2Proof.Machine
end

