-- ==== Sys2Proof/Certificates/Slice0/Obligations.lean ====
section
/-! DEFINITION. The statements for the provers. -/

open Sys2Proof Sys2Proof.Machine

/-! ### Reset, registers and the host -/

/-- 10_state.md R53, R29, R39; 70_reset_and_hazards.md R410, R411: what the host reads after reset, register by
register, every other offset 0; and the hardware reset, whatever is running, puts every register at that value. What the
buffers list and what the working state and INFO are after it is the model's choice (log entries 1 and 2). -/
def Obligations.ResetRegisters : Prop :=
  (∀ off, State.reset.readReg off =
    if off = 0x24 then 0x0000000E#32
    else if off = 0x28 then 2048#32
    else if off = 0x2C then 3#32
    else if off = 0x30 then 128#32
    else if off = 0x34 then 0x00000469#32
    else if off = 0x40 then 0xFFFFFFFF#32
    else if off = 0x48 then 1#32
    else 0#32) ∧
  ∀ (s : State) (rest : List HostOp), s.host = .reset :: rest →
    ∃ t, step s = .next t ∧ t.run = .idle ∧ (∀ off, t.readReg off = State.reset.readReg off) ∧
      t.params = s.params ∧ t.host = rest

/-- 10_state.md R28 to R36, R39: a host write while no command runs answers a next state in which that register holds
exactly the implemented bits of the word, whatever they are, and every other register and everything else is as before; a
read-only register and a reserved offset have no bits. -/
def Obligations.RegisterWritesStoreImplementedBits : Prop :=
  ∀ (s : State) (off : Nat) (v : Word) (rest : List HostOp),
    s.host = .writeReg off v :: rest → s.isBusy = false → off ≠ 0 →
    ∃ t, step s = .next t ∧
      (∀ off', t.readReg off' =
        if off' = off ∧ implementedBits off ≠ 0#32 then v &&& implementedBits off else s.readReg off') ∧
      t = { s with
        host := rest, inLen := t.inLen, auxLen := t.auxLen, cfgInflate := t.cfgInflate, cfgDeflate := t.cfgDeflate
        windowSize := t.windowSize, minMatch := t.minMatch, niceMatch := t.niceMatch, cfgFilter := t.cfgFilter
        width := t.width, height := t.height }

/-- 70_reset_and_hazards.md R420: while STATE = BUSY a write to CMD or to a read-write register is ignored. -/
def Obligations.WritesWhileBusyAreIgnored : Prop :=
  ∀ (s : State) (off : Nat) (v : Word) (rest : List HostOp), s.isBusy = true → s.host = .writeReg off v :: rest →
    step s = .next (s.setHost rest)

/-- 10_state.md R29, 70_reset_and_hazards.md R421: a host read latches the register's value and changes nothing else of
the block; the result registers read an unspecified value while STATE = BUSY, STATUS always reads its own. -/
def Obligations.HostReadsRegisters : Prop :=
  ∀ (s : State) (off : Nat) (rest : List HostOp), s.host = .readReg off :: rest →
    (s.isBusy = false → step s = .next { s with host := rest, hostData := s.readReg off }) ∧
      ∃ t, step s = .next t ∧
        t = { s with host := rest, hostData := t.hostData, freeCtr := t.freeCtr } ∧
        (off = 0x04 → t.hostData = s.statusWord)

/-- 10_state.md R41, 20_memory.md R60, 70_reset_and_hazards.md R421: the host writes one byte of IN or AUX, below the
capacity and while no command runs, and reads one valid byte of OUT. Otherwise a write stops by name, and both stops are
the model's choice: the fault noSuchByte at or beyond the capacity (DESIGN CHOICE, log entry 17), and the refusal hostRace
while a command runs (DESIGN CHOICE, log entry 19). -/
def Obligations.HostAccessesBuffers : Prop :=
  ∀ (s : State) (i : Nat) (b : Byte) (rest : List HostOp),
    (s.host = .writeIn i b :: rest →
      (i < s.params.inCap.toNat → s.isBusy = false →
        ∃ t, step s = .next t ∧ t = { s with host := rest, inBuf := t.inBuf } ∧ t.inBuf.read i = some b ∧
          ∀ a, a ≠ i → t.inBuf.read a = s.inBuf.read a) ∧
      (i < s.params.inCap.toNat → s.isBusy = true → step s = .refused .hostRace) ∧
      (s.params.inCap.toNat ≤ i → step s = .fault .noSuchByte)) ∧
    (s.host = .writeAux i b :: rest →
      (i < s.params.auxCap.toNat → s.isBusy = false →
        ∃ t, step s = .next t ∧ t = { s with host := rest, auxBuf := t.auxBuf } ∧ t.auxBuf.read i = some b ∧
          ∀ a, a ≠ i → t.auxBuf.read a = s.auxBuf.read a) ∧
      (i < s.params.auxCap.toNat → s.isBusy = true → step s = .refused .hostRace) ∧
      (s.params.auxCap.toNat ≤ i → step s = .fault .noSuchByte)) ∧
    (s.host = .readOut i :: rest → s.isBusy = false → i < s.params.outCap.toNat → i < s.outLen.toNat →
      s.outBuf.read i = some b → step s = .next { s with host := rest, hostData := b.zeroExtend 32 })

/-! ### The step -/

/-- 10_state.md R20, R22; 30_encoding.md R119; 70_reset_and_hazards.md R412: while a command runs, and the host does
nothing, polls or lets the engine tick, a step fetches the element that comes next and executes the instruction it
decodes to, in the state after the fetch; an error of the fetch itself is raised. While none runs and the host does
nothing, nothing happens. -/
def Obligations.StepRunsTheFetchedElement : Prop :=
  (∀ (s u : State) (p : Phase), s.run = .busy p →
    ((s.host = [] ∧ u = s) ∨ (∃ rest, s.host = .poll :: rest ∧ u = s) ∨
      (∃ rest, s.host = .tick :: rest ∧ u = s.setHost rest)) →
    (∀ v t i, fetchValue p u = .ok v t → decode p.format v = some i → step s = exec i t) ∧
      (∀ k t, fetchValue p u = .raise k t → step s = .next (raiseError k t))) ∧
  ∀ s : State, s.isBusy = false → s.host = [] → step s = .next s

/-- 10_state.md R27, 46_commands.md R341: a host write to CMD runs the instruction its word decodes to. -/
def Obligations.StepRunsTheCommand : Prop :=
  ∀ (s : State) (v : Word) (rest : List HostOp) (i : Instr), s.host = .writeReg 0 v :: rest →
    decode .cmdw v.toNat = some i → step s = exec i (s.setHost rest)

/-- 30_encoding.md R91, R92, R93, R97, R98, R99: what is fetched in each phase. The header is CMF * 256 + FLG, the
trailer the last four bytes of IN with the most significant first, a block header three bits, a symbol what the active
table decodes, a scanline its filter byte. -/
def Obligations.FetchReadsTheElement : Prop :=
  ∀ s : State,
    (∀ v, s.nextField 3 v → fetchValue .blk s = .ok v (s.setBitpos (s.work.rd.bitpos + 3))) ∧
    (∀ c f, 2 ≤ s.inLen.toNat → s.inBuf.read 0 = some c → s.inBuf.read 1 = some f →
      fetchValue .zhdr s = .ok (c.toNat * 256 + f.toNat) s) ∧
    (∀ a b c d, 4 ≤ s.inLen.toNat → s.inBuf.read (s.inLen.toNat - 4) = some a →
      s.inBuf.read (s.inLen.toNat - 3) = some b → s.inBuf.read (s.inLen.toNat - 2) = some c →
      s.inBuf.read (s.inLen.toNat - 1) = some d →
      fetchValue .trailer s = .ok (a.toNat * 2 ^ 24 + b.toNat * 2 ^ 16 + c.toNat * 2 ^ 8 + d.toNat) s) ∧
    (∀ f, s.work.line.pos < s.inLen.toNat → s.inBuf.read s.work.line.pos = some f →
      fetchValue .scanline s =
        .ok f.toNat { s with work := { s.work with
          regs := { s.work.regs with f := f }, line := { s.work.line with pos := s.work.line.pos + 1 } } }) ∧
    (∀ v t, decodeSymbol s.work.tabs.cl s = .ok v t → fetchValue .clsym s = .ok v t) ∧
    (∀ v t, decodeSymbol s.work.tabs.ll s = .ok v t →
      fetchValue .llsym s =
        .ok v { t with work := { t.work with regs := { t.work.regs with sym := BitVec.ofNat 9 v } } }) ∧
    (∀ v t, decodeSymbol s.work.tabs.d s = .ok v t →
      fetchValue .dsym s =
        .ok v { t with work := { t.work with regs := { t.work.regs with dsym := BitVec.ofNat 5 v } } })

/-! ### Encoding -/

/-- 30_encoding.md R91 to R100, R107, R120: words written out from the formats. 0x7801 is CINFO 7, CM 8, FLEVEL 0,
FCHECK 1; 0b011 is BFINAL 1 with BTYPE 1; 0x61 is a literal, 256 the end of block, 285 a length, 287 illegal; 29 and 31
are distance symbols; 16 is CREP; filter bytes 4 and 7; command words 2, 0x10, 6 and 0x101. -/
def Obligations.SampleWordsDecode : Prop :=
  decode .zhdr 0x7801 = some (.zhdr 7#3 0#2 1#5) ∧ decode .ztrl 0x00620062 = some (.adler32 0x00620062#32) ∧
    decode .blk 0b011 = some (.blockFixed 1#1) ∧ decode .blk 0b110 = some (.blockReserved 0#1) ∧
    decode .stored 0 = some .stored ∧ decode .dynhdr 0 = some .dynhdr ∧
    decode .clsym 16 = some .crep ∧ decode .clsym 7 = some (.clen 7#4) ∧
    decode .llsym 0x61 = some (.lit 0x61#8) ∧ decode .llsym 256 = some .eob ∧ decode .llsym 285 = some .len285 ∧
    decode .llsym 287 = some (.llIllegal 1#1) ∧
    decode .dsym 29 = some .dist29 ∧ decode .dsym 31 = some (.distIllegal 1#1) ∧
    decode .scanline 4 = some .filtPaeth ∧ decode .scanline 7 = some (.filtIllegal5or7 1#1) ∧
    decode .cmdw 2 = some .zlibDecompress ∧ decode .cmdw 0x10 = some .filter ∧
    decode .cmdw 6 = some (.cmdIllegal06 0#1) ∧ decode .cmdw 0x101 = some (.cmdIllegalBit8 1#8)

/-- 30_encoding.md R119: decoding the encoding of a well-formed instruction gives it back, for every instruction and
every operand. -/
def Obligations.DecodeEncode : Prop :=
  ∀ i : Instr, i.wellFormed = true → decode (encode i).1 (encode i).2 = some i

/-- 30_encoding.md R119: the rows of a format together cover every value of the format's domain and no other; each value
stands for one instruction, and encoding it gives the value back (STORED and DYNHDR have no value). -/
def Obligations.EncodeDecode : Prop :=
  (∀ (f : Format) (v : Nat) (i : Instr), decode f v = some i → f ≠ .stored → f ≠ .dynhdr → encode i = (f, v)) ∧
    (∀ v, (decode .zhdr v).isSome = true ↔ v < 65536) ∧ (∀ v, (decode .ztrl v).isSome = true ↔ v < 2 ^ 32) ∧
    (∀ v, (decode .blk v).isSome = true ↔ v < 8) ∧ (∀ v, (decode .clsym v).isSome = true ↔ v < 19) ∧
    (∀ v, (decode .llsym v).isSome = true ↔ v < 288) ∧ (∀ v, (decode .dsym v).isSome = true ↔ v < 32) ∧
    (∀ v, (decode .scanline v).isSome = true ↔ v < 256) ∧ (∀ v, (decode .cmdw v).isSome = true ↔ v < 2 ^ 32)

/-! ### The bit reader and the bit writer -/

/-- 40_bitio_checksums.md R131: `read_bits(n)` gives the next `n` bits, least significant first, and moves BITPOS by `n`
and nothing else; with fewer bits left it raises UnexpectedEnd and consumes nothing. -/
def Obligations.ReadBitsGivesTheNextField : Prop :=
  ∀ (n : Nat) (s : State),
    (s.inputBits < s.work.rd.bitpos + n → readBits n s = .raise .unexpectedEnd s) ∧
      ∀ v, s.nextField n v →
        readBits n s = .ok v (s.setBitpos (s.work.rd.bitpos + n)) ∧ v < 2 ^ n ∧
          ∀ i, i < n → streamBit s (s.work.rd.bitpos + i) = some (v.testBit i)

/-- 40_bitio_checksums.md R133: `advance(n)` moves BITPOS or raises UnexpectedEnd with BITPOS unchanged, and
`read_bits(n)` is `peek_bits(n)` followed by `advance(n)` whenever `advance(n)` succeeds. -/
def Obligations.ReadIsPeekThenAdvance : Prop :=
  ∀ (n : Nat) (s : State),
    (s.inputBits < s.work.rd.bitpos + n → advance n s = .raise .unexpectedEnd s) ∧
      (s.work.rd.bitpos + n ≤ s.inputBits →
        advance n s = .ok () (s.setBitpos (s.work.rd.bitpos + n)) ∧
          readBits n s = (peekBits n s).bind fun v t => (advance n t).bind fun _ u => .ok v u)

/-- 40_bitio_checksums.md R134: `byte_align()` moves BITPOS to the next multiple of 8, not at all from a multiple of 8,
never past the end of the active input. -/
def Obligations.ByteAlignRoundsUp : Prop :=
  ∀ s : State, ∃ p, byteAlign s = s.setBitpos p ∧ p % 8 = 0 ∧ s.work.rd.bitpos ≤ p ∧ p < s.work.rd.bitpos + 8 ∧
    (s.work.rd.bitpos ≤ s.inputBits → p ≤ s.inputBits)

/-- 40_bitio_checksums.md R136, R139: the bytes the bit writer delivers, read back as a bit stream, are the bits written
followed by zeros up to the end of the last byte. -/
def Obligations.WrittenBitsReadBack : Prop :=
  ∀ (bits : List Bool) (s : State), s.inBuf = Memory.ofBytes 0 (finalize bits) → s.work.rd.base = 0 →
    (finalize bits).length = (bits.length + 7) / 8 ∧
      ∀ k, streamBit s k =
        if k < bits.length then bits[k]? else if k < 8 * ((bits.length + 7) / 8) then some false else none

/-! ### Huffman codes -/

/-- 41_huffman.md R162, R164 (b), (c): the codes assigned to lengths that are not over-subscribed fit their lengths, no
code word is the beginning of another, longer codes come later in both readings of P3, and codes of one length rise with
the symbol. -/
def Obligations.CanonicalCodes : Prop :=
  ∀ (limit : Nat) (len : List Nat), (∀ l ∈ len, l ≤ limit) → kraftSum limit len ≤ 2 ^ limit →
    let T := buildCodes limit len
    T.len = len ∧ T.sound ∧ T.noWordBeginsAnother ∧
      ∀ a b, T.used a → T.used b →
        (len.getD a 0 < len.getD b 0 →
          T.code.getD a 0 * 2 ^ (limit - len.getD a 0) < T.code.getD b 0 * 2 ^ (limit - len.getD b 0) ∧
            T.code.getD a 0 < T.code.getD b 0) ∧
        (len.getD a 0 = len.getD b 0 → a < b → T.code.getD a 0 < T.code.getD b 0)

/-- 41_huffman.md R165, R166, R167: the symbol whose code word comes next is decoded and exactly its code word consumed;
with no code word next the decoder raises InvalidSymbol once the longest length can be read, and UnexpectedEnd before
that; an empty table raises InvalidSymbol with no bit consumed. -/
def Obligations.SymbolDecoderFindsTheNextWord : Prop :=
  ∀ (T : HuffTable) (s : State), T.sound → T.noWordBeginsAnother →
    (∀ sym, T.used sym → s.nextBits (T.word sym) →
      decodeSymbol T s = .ok sym (s.setBitpos (s.work.rd.bitpos + T.len.getD sym 0))) ∧
    (T.maxLen = 0 → decodeSymbol T s = .raise .invalidSymbol s) ∧
    ((∀ sym, T.used sym → ¬ s.nextBits (T.word sym)) →
      (∀ k, k < s.inputBits → (streamBit s k).isSome = true) →
      (s.work.rd.bitpos + T.maxLen ≤ s.inputBits →
        decodeSymbol T s = .raise .invalidSymbol (s.setBitpos (s.work.rd.bitpos + T.maxLen))) ∧
      (s.work.rd.bitpos ≤ s.inputBits → s.inputBits < s.work.rd.bitpos + T.maxLen →
        ∃ t, decodeSymbol T s = .raise .unexpectedEnd t))

/-- 41_huffman.md R171: with no nonzero frequency the first two symbols get length 1; with exactly one, that symbol and a
second one, 0 unless it is itself 0 and then 1. -/
def Obligations.AtMostOneUsedSymbol : Prop :=
  ∀ (limit : Nat) (f : List Nat), 2 ≤ f.length →
    ((∀ x ∈ f, x = 0) → limitedLengths limit f = [1, 1] ++ List.replicate (f.length - 2) 0) ∧
      ∀ s, s < f.length → (∀ t, t < f.length → (f.getD t 0 ≠ 0 ↔ t = s)) →
        (limitedLengths limit f).length = f.length ∧
          ∀ t, t < f.length →
            (limitedLengths limit f).getD t 0 = if t = s ∨ t = (if s = 0 then 1 else 0) then 1 else 0

/-! ### Symbol streams and the compressor -/

/-- 42_lz77_matchfinder.md R203, 30_encoding.md R108, R109: a length and a distance go to a symbol whose base and extra
bits express exactly that value, 258 to symbol 285; and every symbol with every extra value stays in the range. -/
def Obligations.MatchSymbolsCoverTheRanges : Prop :=
  (∀ l, 3 ≤ l → l ≤ 258 →
    257 ≤ lsym l ∧ lsym l ≤ 285 ∧ lbase (lsym l) ≤ l ∧ l < lbase (lsym l) + 2 ^ lextra (lsym l) ∧
      (l = 258 → lsym l = 285)) ∧
  (∀ d, 1 ≤ d → d ≤ 32768 → dsym d ≤ 29 ∧ dbase (dsym d) ≤ d ∧ d < dbase (dsym d) + 2 ^ dextra (dsym d)) ∧
  (∀ c x, 257 ≤ c → c ≤ 285 → x < 2 ^ lextra c → 3 ≤ lbase c + x ∧ lbase c + x ≤ 258) ∧
  (∀ c x, c ≤ 29 → x < 2 ^ dextra c → 1 ≤ dbase c + x ∧ dbase c + x ≤ 32768)

/-- 42_lz77_matchfinder.md R194: a match whose distance lies in the history appends `len` bytes, each the one `dist`
back from it, overlapping its own output where `dist` is below `len`; a larger distance, or 0, has no meaning. -/
def Obligations.MatchCopiesFromBehind : Prop :=
  ∀ (hist : List Byte) (len dist : Nat),
    (1 ≤ dist → dist ≤ hist.length →
      ∃ out, expand hist [.copy len dist] = some out ∧ out.length = len ∧
        ∀ i, i < len → (hist ++ out)[hist.length + i]? = (hist ++ out)[hist.length + i - dist]?) ∧
    (1 ≤ len → dist = 0 ∨ hist.length < dist → expand hist [.copy len dist] = none)

/-- 42_lz77_matchfinder.md R193, R196, R200, R201: the reference match finder's stream of the block `data[start .. stop)`,
with the chains that earlier blocks left, stands for exactly the block's bytes after the history `data[0 .. start)`, with
matches of 3 to 258 bytes at distances of at most WINDOWSIZE, and none when USE_LZ77 = 0; whatever HASH,
MAX_CHAIN_LENGTH, MINMATCH, NICEMATCH and LAZYMATCHING are. It leaves chains of which the same holds at `stop`, and the
empty chains of a command's start are such chains at 0. (A MAX_CHAIN_LENGTH of 0, which the spec excludes, is the model's
choice, log entry 4.) -/
def Obligations.MatchFinderMeetsItsContract : Prop :=
  (∀ (cfg : FinderConfig) (data : List Byte) (start stop : Nat) (t : Chains),
    start ≤ stop → stop ≤ data.length → t.below start →
      symbolsOk cfg.window cfg.useLz77 data start (stop - start) (findSymbols cfg data start stop t).1 = true ∧
        (findSymbols cfg data start stop t).2.below stop) ∧
  ({ head := [], prev := [] } : Chains).below 0

/-- 44_deflate.md R272 against 43_inflate.md R222: the run-length coding of any code lengths expands to them, with every
repeat count in its range and no repeat first. -/
def Obligations.RunLengthCodingExpands : Prop :=
  ∀ q : List Nat, (∀ v ∈ q, v ≤ 15) → expandItems [] (rle q) = some q

/-- 44_deflate.md R276: the size the type decision uses is the number of bits emitted, for every type, position and
symbol stream. -/
def Obligations.BlockSizeIsTheBitsEmitted : Prop :=
  ∀ (w : Nat) (final : Bool) (bs : List Byte) (p : BlockPlan), bs.length = p.len → p.hclen ≤ 19 →
    (blockBits w final bs p).length = blockCost w p

/-- 44_deflate.md R260 (a), R266; 43_inflate.md R210, R213: a stream of stored blocks as the compressor writes it, for
any data cut anywhere into blocks of at most 65535 bytes, is inflated back to the data in two steps a block. -/
def Obligations.StoredStreamRoundTrip : Prop :=
  ∀ (s : State) (data : List Byte) (plans : List BlockPlan), plans ≠ [] →
    (∀ p ∈ plans, p.btype = 0 ∧ p.len ≤ 65535) → (plans.map BlockPlan.len).sum = data.length →
    s.inBuf = Memory.ofBytes 0 (finalize (streamBits 0 data plans)) →
    s.inLen.toNat = (finalize (streamBits 0 data plans)).length →
    s.run = .busy .blk → s.work.framing = .raw →
    s.work.rd = { bitpos := 0, base := 0, size := (finalize (streamBits 0 data plans)).length } →
    s.outBuf = [] → s.outLen = 0#31 → data.length ≤ s.params.outCap.toNat → s.host = [] →
      ∃ t : State, Host.Core.run Sys2Proof.core (2 * plans.length) s = .next t ∧ t.run = .done ∧
        t.outLen.toNat = data.length ∧ t.outBuf.bytes 0 data.length = some data

/-! ### Checksums -/

/-- 40_bitio_checksums.md R143, R144: the CRC of two sequences one after the other is that of their concatenation, from
any register value, and the check values of the rule. -/
def Obligations.CrcIsRunning : Prop :=
  (∀ (r : Word) (xs ys : List Byte), crcRun (crcRun r xs) ys = crcRun r (xs ++ ys)) ∧
    crc32 [] = 0#32 ∧ crc32 [0x61#8] = 0xE8B7BE43#32 ∧
    crc32 [0x31#8, 0x32#8, 0x33#8, 0x34#8, 0x35#8, 0x36#8, 0x37#8, 0x38#8, 0x39#8] = 0xCBF43926#32

/-- 40_bitio_checksums.md R147: the Adler-32 of two sequences one after the other is that of their concatenation, from
any start value, and the values the rule gives for "Wikipedia". -/
def Obligations.AdlerIsRunning : Prop :=
  (∀ (a : Word) (xs ys : List Byte), adlerUpdate (adlerUpdate a xs) ys = adlerUpdate a (xs ++ ys)) ∧
    adler32 [0x57#8, 0x69#8, 0x6B#8, 0x69#8, 0x70#8, 0x65#8, 0x64#8, 0x69#8, 0x61#8] = 0x11E60398#32 ∧
    adlerUpdate (adler32 [0x57#8, 0x69#8, 0x6B#8, 0x69#8]) [0x70#8, 0x65#8, 0x64#8, 0x69#8, 0x61#8] = 0x11E60398#32

/-! ### Errors -/

/-- 60_exceptions.md R372: the four codes the source gives; any other kind has some nonzero code that is none of the
four, and no error has code 0. -/
def Obligations.ErrorCodes : Prop :=
  errcodeOf .badCrc = 57#32 ∧ errcodeOf .badAdler = 58#32 ∧ errcodeOf .invalidWindowSize = 60#32 ∧
    errcodeOf .powerOfTwoRequired = 90#32 ∧
    (∀ k : ErrKind, k ≠ .badCrc → k ≠ .badAdler → k ≠ .invalidWindowSize → k ≠ .powerOfTwoRequired →
      errcodeOf k ≠ 0#32 ∧ errcodeOf k ≠ 57#32 ∧ errcodeOf k ≠ 58#32 ∧ errcodeOf k ≠ 60#32 ∧ errcodeOf k ≠ 90#32) ∧
    ∀ s : State, (complete s).errCode = 0#32

/-- 30_encoding.md R114; 43_inflate.md R211, R234, R237, R241; 45_filter.md R309; 60_exceptions.md R380: an element that
is illegal by itself (ZHDR_BAD_CINFO, ZHDR_BAD_FDICT, ZHDR_BAD_CM_0xxx, ZHDR_BAD_CM_11xx, ZHDR_BAD_CM_101x,
ZHDR_BAD_CM_1001, BLOCK_RESERVED, LL_ILLEGAL, DIST_ILLEGAL, FILT_ILLEGAL_5_7, FILT_ILLEGAL_6, FILT_ILLEGAL_8_15,
FILT_ILLEGAL_16_31, FILT_ILLEGAL_32_63, FILT_ILLEGAL_64_127, FILT_ILLEGAL_128_255) ends the command with its kind:
STATE = ERROR, ERRKIND and ERRCODE say it, OUT_LEN is 0, INFO is empty, and nothing else but the working state and the
unspecified bytes of OUT changes. -/
def Obligations.IllegalElementsRaise : Prop :=
  ∀ (i : Instr) (k : ErrKind) (s : State), illegalKind i = some k → ∃ t, exec i s = .next t ∧ s.raised k t

/-! ### Stream elements -/

/-- 43_inflate.md R231, R250; 20_memory.md R63: LIT appends its byte, and nothing else changes but the inspection's
symbol list; with OUT full it raises OutOfCapacity. -/
def Obligations.LiteralAppendsItsByte : Prop :=
  ∀ (b : Byte) (s : State),
    (s.outLen.toNat < s.params.outCap.toNat →
      ∃ t, exec (.lit b) s = .next t ∧ s.appended t [b] ∧
        t = { s with run := .busy .llsym, outBuf := t.outBuf, outLen := t.outLen
                     work := { s.work with insp := t.work.insp } } ∧
        (s.work.framing ≠ .inspect → t.work.insp = s.work.insp) ∧
        (s.work.framing = .inspect →
          t.work.insp = { s.work.insp with symsRev := .lit b :: s.work.insp.symsRev })) ∧
    (s.params.outCap.toNat ≤ s.outLen.toNat → ∃ t, exec (.lit b) s = .next t ∧ s.raised .outOfCapacity t)

/-- 43_inflate.md R232, R210, R240, R250: EOB appends nothing; after a block that is not final a header comes next, after
the final one the command is done, or the trailer comes next under the zlib commands; the inspection mode adds the
block's record to INFO. (Where the inspection of a block starts counting is the model's inference, DEDUCED, log entry
28.) -/
def Obligations.EndOfBlockGoesOn : Prop :=
  ∀ s : State, ∃ t, exec .eob s = .next t ∧ s.goesOn t ∧ s.recorded t s.work.rd.bitpos s.outLen.toNat ∧
    t = { s with run := t.run, errKind := t.errKind, errCode := t.errCode, info := t.info }

/-- 43_inflate.md R233, 30_encoding.md R103, R108: LEN_257 to LEN_285 set LENGTH to the base plus the extra bits, at
most 258, and a distance comes next; nothing else changes; without the extra bits they raise UnexpectedEnd. -/
def Obligations.LengthElementsSetLength : Prop :=
  ∀ r ∈ lengthRows, ∀ s : State,
    (∀ x, s.nextField r.2.2 x →
      r.2.1 + x ≤ 258 ∧
        exec r.1 s = .next { s with
          run := .busy .dsym
          work := { s.work with
            rd := { s.work.rd with bitpos := s.work.rd.bitpos + r.2.2 }
            regs := { s.work.regs with length := BitVec.ofNat 9 (r.2.1 + x) } } }) ∧
    (s.inputBits < s.work.rd.bitpos + r.2.2 → ∃ t, exec r.1 s = .next t ∧ s.raised .unexpectedEnd t)

/-- 43_inflate.md R234, R235, R236, R238, 30_encoding.md R109: DIST_0 to DIST_29 set DIST to the base plus the extra
bits and copy LENGTH bytes, each equal to the byte DIST before it, the earlier output and every other byte unchanged; a
literal/length symbol comes next. DIST beyond OUT_LEN is BadDistance; missing extra bits are UnexpectedEnd; without room
for the whole match in OUT they raise OutOfCapacity (20_memory.md R63). -/
def Obligations.DistanceElementsCopyTheMatch : Prop :=
  ∀ r ∈ distanceRows, ∀ s : State,
    (∀ x, s.nextField r.2.2 x → r.2.1 + x ≤ s.outLen.toNat →
      (∀ a, s.outLen.toNat - (r.2.1 + x) ≤ a → a < s.outLen.toNat → (s.outBuf.read a).isSome = true) →
      s.outLen.toNat + s.work.regs.length.toNat ≤ s.params.outCap.toNat →
      ∃ t, exec r.1 s = .next t ∧ t.outLen.toNat = s.outLen.toNat + s.work.regs.length.toNat ∧
        (∀ a, s.outLen.toNat ≤ a → a < t.outLen.toNat →
          (t.outBuf.read a).isSome = true ∧ t.outBuf.read a = t.outBuf.read (a - (r.2.1 + x))) ∧
        (∀ a, a < s.outLen.toNat ∨ t.outLen.toNat ≤ a → t.outBuf.read a = s.outBuf.read a) ∧
        t = { s with
          run := .busy .llsym, outBuf := t.outBuf, outLen := t.outLen
          work := { s.work with
            rd := { s.work.rd with bitpos := s.work.rd.bitpos + r.2.2 }
            regs := { s.work.regs with dist := BitVec.ofNat 16 (r.2.1 + x) }
            insp := t.work.insp } } ∧
        (s.work.framing ≠ .inspect → t.work.insp = s.work.insp) ∧
        (s.work.framing = .inspect → t.work.insp =
          { s.work.insp with symsRev := .copy s.work.regs.length.toNat (r.2.1 + x) :: s.work.insp.symsRev })) ∧
    (∀ x, s.nextField r.2.2 x → r.2.1 + x ≤ s.outLen.toNat →
      (∀ a, s.outLen.toNat - (r.2.1 + x) ≤ a → a < s.outLen.toNat → (s.outBuf.read a).isSome = true) →
      1 ≤ s.work.regs.length.toNat → s.params.outCap.toNat < s.outLen.toNat + s.work.regs.length.toNat →
      ∃ t, exec r.1 s = .next t ∧ s.raised .outOfCapacity t) ∧
    (∀ x, s.nextField r.2.2 x → s.outLen.toNat < r.2.1 + x → ∃ t, exec r.1 s = .next t ∧ s.raised .badDistance t) ∧
    (s.inputBits < s.work.rd.bitpos + r.2.2 → ∃ t, exec r.1 s = .next t ∧ s.raised .unexpectedEnd t)

/-- 43_inflate.md R210, R211, R216: BLOCK_STORED, BLOCK_FIXED and BLOCK_DYNAMIC set BFINAL and BTYPE and hand over to the
block's body; BLOCK_FIXED loads the tables built from the fixed lengths of 30_encoding.md R111. Nothing else changes but
the inspection's start. That it starts at `BITPOS - 3`, the header's first bit, with no tree bits and no symbols, is the
model's inference from R250 (DEDUCED, log entry 28). -/
def Obligations.BlockHeadersSelectTheBody : Prop :=
  ∀ (b : BitVec 1) (s : State),
    let insp : Inspect := { startBit := s.work.rd.bitpos - 3, startOut := s.outLen.toNat, treeBits := 0, symsRev := [] }
    exec (.blockStored b) s = .next { s with
      run := .busy .stored
      work := { s.work with regs := { s.work.regs with bfinal := b, btype := 0#2 }, insp := insp } } ∧
    exec (.blockFixed b) s = .next { s with
      run := .busy .llsym
      work := { s.work with
        regs := { s.work.regs with bfinal := b, btype := 1#2 }
        tabs := { s.work.tabs with ll := buildCodes 15 fixedLLLen, d := buildCodes 15 (List.replicate 32 5) }
        insp := insp } } ∧
    exec (.blockDynamic b) s = .next { s with
      run := .busy .dynhdr
      work := { s.work with regs := { s.work.regs with bfinal := b, btype := 2#2 }, insp := insp } }

/-- 43_inflate.md R213, R210, 30_encoding.md R94: STORED aligns to a byte, reads LEN and NLEN, appends LEN bytes of the
input and goes on as after any block; LEN + NLEN other than 65535 is StoredMismatch, checked before the length of the
data, which is UnexpectedEnd; without room for all of the data in OUT it raises OutOfCapacity (20_memory.md R63). (Where
the inspection of a block starts counting, R250, is the model's inference, DEDUCED, log entry 28.) -/
def Obligations.StoredBlockCopies : Prop :=
  ∀ (s : State) (p len nlen : Nat), p = 8 * ((s.work.rd.bitpos + 7) / 8) →
    (s.setBitpos p).nextField 16 len → (s.setBitpos (p + 16)).nextField 16 nlen →
    (∀ bs, len + nlen = 65535 → p + 32 + 8 * len ≤ s.inputBits →
      s.inBuf.bytes (s.work.rd.base + p / 8 + 4) len = some bs →
      s.outLen.toNat + len ≤ s.params.outCap.toNat →
      ∃ t, exec .stored s = .next t ∧ s.appended t bs ∧ s.goesOn t ∧
        s.recorded t (p + 32 + 8 * len) (s.outLen.toNat + len) ∧
        t = { s with
          run := t.run, errKind := t.errKind, errCode := t.errCode, info := t.info
          outBuf := t.outBuf, outLen := t.outLen
          work := { s.work with
            rd := { s.work.rd with bitpos := p + 32 + 8 * len }
            regs := { s.work.regs with len := BitVec.ofNat 16 len, nlen := BitVec.ofNat 16 nlen } } }) ∧
    (∀ bs, len + nlen = 65535 → p + 32 + 8 * len ≤ s.inputBits →
      s.inBuf.bytes (s.work.rd.base + p / 8 + 4) len = some bs →
      1 ≤ len → s.params.outCap.toNat < s.outLen.toNat + len →
      ∃ t, exec .stored s = .next t ∧ s.raised .outOfCapacity t) ∧
    (len + nlen ≠ 65535 → ∃ t, exec .stored s = .next t ∧ s.raised .storedMismatch t) ∧
    (len + nlen = 65535 → s.inputBits < p + 32 + 8 * len →
      ∃ t, exec .stored s = .next t ∧ s.raised .unexpectedEnd t)

/-- 43_inflate.md R220, R221, 30_encoding.md R95, R104: DYNHDR sets HLIT, HDIST and HCLEN from the fields, builds the
code-length table from the HCLEN three-bit fields in the permuted order, and starts the code-length sequence; an
over-subscribed table is InvalidTree. -/
def Obligations.DynamicHeaderBuildsTheLengthCode : Prop :=
  ∀ (s : State) (a b c : Nat) (cl : List Nat),
    s.nextField 5 a → (s.setBitpos (s.work.rd.bitpos + 5)).nextField 5 b →
    (s.setBitpos (s.work.rd.bitpos + 10)).nextField 4 c →
    cl.length = 19 →
    (∀ i, i < c + 4 →
      (s.setBitpos (s.work.rd.bitpos + 14 + 3 * i)).nextField 3
        (cl.getD ([16, 17, 18, 0, 8, 7, 9, 6, 10, 5, 11, 4, 12, 3, 13, 2, 14, 1, 15].getD i 0) 0)) →
    (∀ i, c + 4 ≤ i → i < 19 →
      cl.getD ([16, 17, 18, 0, 8, 7, 9, 6, 10, 5, 11, 4, 12, 3, 13, 2, 14, 1, 15].getD i 0) 0 = 0) →
    (kraftSum 7 cl ≤ 2 ^ 7 →
      exec .dynhdr s = .next { s with
        run := .busy .clsym
        work := { s.work with
          rd := { s.work.rd with bitpos := s.work.rd.bitpos + 14 + 3 * (c + 4) }
          regs := { s.work.regs with
            hlit := BitVec.ofNat 9 (a + 257), hdist := BitVec.ofNat 6 (b + 1), hclen := BitVec.ofNat 5 (c + 4)
            cli := 0#9 }
          tabs := { s.work.tabs with cl := buildCodes 7 cl, lens := [] } } }) ∧
    (2 ^ 7 < kraftSum 7 cl → ∃ t, exec .dynhdr s = .next t ∧ s.raised .invalidTree t)

/-- 43_inflate.md R222 to R227, R251 to R254, 30_encoding.md R96: CLEN produces one length, CREP repeats the one before
3 + e times, CZERO_SHORT and CZERO_LONG give 3 + e and 11 + e zeros; short of HLIT + HDIST another code-length symbol
comes next, at HLIT + HDIST the two tables are built, or InvalidTree is raised. That the inspection's tree bits are then
the bits from behind the block's header to here is the model's inference from R250 (DEDUCED, log entry 28). -/
def Obligations.CodeLengthElementsProduceLengths : Prop :=
  ∀ s : State, s.lengthsInProgress →
    (∀ c : BitVec 4, ∃ t, exec (.clen c) s = .next t ∧ s.lengthsProduced t 0 [c.toNat]) ∧
    (∀ e v, s.nextField 2 e → s.work.tabs.lens.getLast? = some v →
      s.work.tabs.lens.length + (3 + e) ≤ s.lensWanted →
      ∃ t, exec .crep s = .next t ∧ s.lengthsProduced t 2 (List.replicate (3 + e) v)) ∧
    (∀ e, s.nextField 3 e → s.work.tabs.lens.length + (3 + e) ≤ s.lensWanted →
      ∃ t, exec .czeroShort s = .next t ∧ s.lengthsProduced t 3 (List.replicate (3 + e) 0)) ∧
    (∀ e, s.nextField 7 e → s.work.tabs.lens.length + (11 + e) ≤ s.lensWanted →
      ∃ t, exec .czeroLong s = .next t ∧ s.lengthsProduced t 7 (List.replicate (11 + e) 0))

/-- 43_inflate.md R224, R225: CREP with no length produced yet is InvalidTree, before its extra bits are read; a repeat
past HLIT + HDIST is InvalidTree. -/
def Obligations.CodeLengthRepeatsRaise : Prop :=
  ∀ s : State,
    (s.work.regs.cli = 0#9 → ∃ t, exec .crep s = .next t ∧ s.raised .invalidTree t) ∧
    (∀ e, s.work.regs.cli ≠ 0#9 → s.nextField 2 e → s.lensWanted < s.work.regs.cli.toNat + (3 + e) →
      ∃ t, exec .crep s = .next t ∧ s.raised .invalidTree t) ∧
    (∀ e, s.nextField 3 e → s.lensWanted < s.work.regs.cli.toNat + (3 + e) →
      ∃ t, exec .czeroShort s = .next t ∧ s.raised .invalidTree t) ∧
    (∀ e, s.nextField 7 e → s.lensWanted < s.work.regs.cli.toNat + (11 + e) →
      ∃ t, exec .czeroLong s = .next t ∧ s.raised .invalidTree t)

/-- 43_inflate.md R240, R241, R242, 30_encoding.md R91: a ZHDR whose number is divisible by 31 starts inflating
`IN[2 .. IN_LEN - 4)` from bit 0; any other is BadZlibHeader. -/
def Obligations.ZlibHeaderIsChecked : Prop :=
  ∀ (cinfo : BitVec 3) (flevel : BitVec 2) (fcheck : BitVec 5) (s : State),
    ((cinfo.toNat * 4096 + 2048 + flevel.toNat * 64 + fcheck.toNat) % 31 = 0 →
      exec (.zhdr cinfo flevel fcheck) s = .next { s with
        run := .busy .blk, outLen := 0#31, outBuf := []
        work := { s.work with rd := { bitpos := 0, base := 2, size := s.inLen.toNat - 6 } } }) ∧
    ((cinfo.toNat * 4096 + 2048 + flevel.toNat * 64 + fcheck.toNat) % 31 ≠ 0 →
      ∃ t, exec (.zhdr cinfo flevel fcheck) s = .next t ∧ s.raised .badZlibHeader t)

/-- 43_inflate.md R245, 46_commands.md R341: ADLER32 ends the command without error when the trailer is the Adler-32 of
OUT or IGNORE_ADLER32 = 1, and otherwise raises BadAdler; the host's ADLER_VALUE is not changed. -/
def Obligations.ZlibTrailerIsChecked : Prop :=
  ∀ (a : Word) (out : List Byte) (s : State), s.outBuf.bytes 0 s.outLen.toNat = some out →
    (adler32 out = a ∨ s.cfgInflate = 1#1 →
      ∃ t, exec (.adler32 a) s = .next t ∧
        t = { s with
          run := .done, errKind := none, errCode := 0#32
          work := { s.work with
            regs := { s.work.regs with
              s1 := (adler32 out).extractLsb' 0 16 |>.zeroExtend 32
              s2 := (adler32 out).extractLsb' 16 16 |>.zeroExtend 32 } } }) ∧
    (adler32 out ≠ a → s.cfgInflate = 0#1 → ∃ t, exec (.adler32 a) s = .next t ∧ s.raised .badAdler t)

/-! ### Scanlines -/

/-- 45_filter.md R302 to R308, 70_reset_and_hazards.md R426, R427: each filtered byte is the raw byte minus, and each
reconstructed byte the filtered byte plus, the predictor of the raw (reconstructed) left byte and the bytes above and
above left, modulo 256; bytes before the line are 0. The predictor is none, left, above, half the unwrapped sum, or
Paeth. -/
def Obligations.ScanlinePredictors : Prop :=
  ∀ (bw i : Nat) (line prior : List Byte), 1 ≤ bw → i < line.length →
    let b := prior.getD i 0#8
    let c := backByte prior i bw
    let x := line.getD i 0#8
    (∀ f, (filterLine f bw line prior).length = line.length ∧ (unfilterLine f bw line prior).length = line.length) ∧
      (filterLine 0 bw line prior).getD i 0#8 = x ∧
      (filterLine 1 bw line prior).getD i 0#8 = x - backByte line i bw ∧
      (filterLine 2 bw line prior).getD i 0#8 = x - b ∧
      (filterLine 3 bw line prior).getD i 0#8 =
        x - BitVec.ofNat 8 (((backByte line i bw).toNat + b.toNat) / 2) ∧
      (filterLine 4 bw line prior).getD i 0#8 = x - paeth (backByte line i bw) b c ∧
      (unfilterLine 0 bw line prior).getD i 0#8 = x ∧
      (unfilterLine 1 bw line prior).getD i 0#8 = x + backByte (unfilterLine 1 bw line prior) i bw ∧
      (unfilterLine 2 bw line prior).getD i 0#8 = x + b ∧
      (unfilterLine 3 bw line prior).getD i 0#8 =
        x + BitVec.ofNat 8 (((backByte (unfilterLine 3 bw line prior) i bw).toNat + b.toNat) / 2) ∧
      (unfilterLine 4 bw line prior).getD i 0#8 =
        x + paeth (backByte (unfilterLine 4 bw line prior) i bw) b c

/-- 45_filter.md R310 (P4): for every scanline, prior line, byte distance and filter type, unfiltering undoes
filtering. -/
def Obligations.FilterIsReversible : Prop :=
  ∀ (f bw : Nat) (raw prior : List Byte), unfilterLine f bw (filterLine f bw raw prior) prior = raw

/-- 45_filter.md R305: the Paeth predictor is the first of left, above and above left whose distance from
`left + above - above left`, taken without wrapping, is least. -/
def Obligations.PaethPicksTheNearest : Prop :=
  ∀ a b c : Byte,
    let p : Int := (a.toNat : Int) + (b.toNat : Int) - (c.toNat : Int)
    let d : Byte → Nat := fun x => (p - (x.toNat : Int)).natAbs
    (paeth a b c = a ∨ paeth a b c = b ∨ paeth a b c = c) ∧
      d (paeth a b c) ≤ d a ∧ d (paeth a b c) ≤ d b ∧ d (paeth a b c) ≤ d c ∧
      (d a ≤ d b → d a ≤ d c → paeth a b c = a) ∧ (d b < d a → d b ≤ d c → paeth a b c = b)

/-- 45_filter.md R308, R321, R302 to R307: FILT_NONE, FILT_SUB, FILT_UP, FILT_AVERAGE and FILT_PAETH append the
reconstructed scanline, which becomes PRIOR, and go on to the next row, or to the first row of the next pass that has
pixels with PRIOR zeros, or to the end of the command; nothing else changes. Without room for the scanline in OUT they
raise OutOfCapacity. -/
def Obligations.ScanlineElementsReconstruct : Prop :=
  ∀ r ∈ filterRowsOf, ∀ (s : State) (out : List Byte),
    s.lineInProgress → s.work.line.pos + s.work.regs.linebytes.toNat ≤ s.inLen.toNat →
    s.inBuf.bytes s.work.line.pos s.work.regs.linebytes.toNat = some out →
    (s.params.outCap.toNat < s.outLen.toNat + s.work.regs.linebytes.toNat →
      ∃ t, exec r.1 s = .next t ∧ s.raised .outOfCapacity t) ∧
    (s.outLen.toNat + s.work.regs.linebytes.toNat ≤ s.params.outCap.toNat →
    let cur := unfilterLine r.2 s.work.regs.bytewidth.toNat out s.work.line.prior
    ∃ t, exec r.1 s = .next t ∧ s.appended t cur ∧
      t.work.line.cur = cur ∧ t.work.line.pos = s.work.line.pos + s.work.regs.linebytes.toNat ∧
      t = { s with
        run := t.run, errKind := t.errKind, errCode := t.errCode, outBuf := t.outBuf, outLen := t.outLen
        work := { s.work with
          regs := { s.work.regs with
            row := t.work.regs.row, pass := t.work.regs.pass, linebytes := t.work.regs.linebytes }
          line := { s.work.line with cur := t.work.line.cur, prior := t.work.line.prior, pos := t.work.line.pos } } } ∧
      (s.work.regs.row.toNat + 1 < (s.dims s.work.regs.pass.toNat).2 →
        t.run = .busy .scanline ∧ t.work.regs.row.toNat = s.work.regs.row.toNat + 1 ∧
          t.work.regs.pass = s.work.regs.pass ∧ t.work.regs.linebytes = s.work.regs.linebytes ∧
          t.work.line.prior = cur ∧ t.errKind = s.errKind ∧ t.errCode = s.errCode) ∧
      (s.work.regs.row.toNat + 1 = (s.dims s.work.regs.pass.toNat).2 →
        (∀ q, s.work.regs.pass.toNat < q → q ≤ 7 → s.passUsed q = false) →
          t.run = .done ∧ t.errKind = none ∧ t.errCode = 0#32 ∧ t.work.regs = s.work.regs ∧ t.work.line.prior = cur) ∧
      (∀ q, s.work.regs.row.toNat + 1 = (s.dims s.work.regs.pass.toNat).2 →
        s.work.regs.pass.toNat < q → q ≤ 7 → s.passUsed q = true →
        (∀ q', s.work.regs.pass.toNat < q' → q' < q → s.passUsed q' = false) →
          t.run = .busy .scanline ∧ t.work.regs.pass.toNat = q ∧ t.work.regs.row = 0#31 ∧
            t.work.regs.linebytes.toNat = s.passLine q ∧ t.work.line.prior = List.replicate (s.passLine q) 0#8 ∧
            t.errKind = s.errKind ∧ t.errCode = s.errCode))

/-- 45_filter.md R324, R320: the sizes of the seven passes add up to the image. -/
def Obligations.PassesPartitionTheImage : Prop :=
  ∀ w h : Nat, 1 ≤ w → 1 ≤ h →
    (([1, 2, 3, 4, 5, 6, 7].map fun p => (passDims true w h p).1 * (passDims true w h p).2)).sum = w * h

/-- 45_filter.md R311 to R317, R321: one scanline of FILTER appends a filter byte of at most 4 and the scanline filtered
by it, and CUR becomes PRIOR. Strategy zero chooses 0; minsum and brute the smallest type with the least score, entropy
under exact arithmetic the smallest with the least entropy, predefined the AUX byte of the scanline. BRUTE_SIZE is any
function (log entry 13). Entropy under another ENTROPY_ARITH chooses the smallest type with the least entropy as that
arithmetic evaluates it; that it is then the opaque Config.freeEntropy, used where it agrees with exact reals up to an
opaque error, is the model's choice (DESIGN CHOICE, log entry 14). -/
def Obligations.FilterRowChoosesAndFilters : Prop :=
  ∀ (s : State) (cur : List Byte),
    s.work.line.pos + s.work.regs.linebytes.toNat ≤ s.inLen.toNat →
    s.inBuf.bytes s.work.line.pos s.work.regs.linebytes.toNat = some cur →
    s.outLen.toNat + s.work.regs.linebytes.toNat + 1 ≤ s.params.outCap.toNat →
    s.effectiveStrategy ≤ 4 → (s.effectiveStrategy = 4 → s.auxLegal s.work.line.line) →
    let candidate := fun f => filterLine f s.work.regs.bytewidth.toNat cur s.work.line.prior
    ∃ f t, filterRow s = .ok () t ∧ s.picks s.work.line.line candidate f ∧
      s.appended t (BitVec.ofNat 8 f :: candidate f) ∧
      t = { s with
        outBuf := t.outBuf, outLen := t.outLen
        work := { s.work with
          regs := { s.work.regs with f := BitVec.ofNat 8 f }
          line := { prior := cur, cur := cur
                    trial := [candidate 0, candidate 1, candidate 2, candidate 3, candidate 4]
                    pos := s.work.line.pos + s.work.regs.linebytes.toNat, line := s.work.line.line + 1 } } }

/-! ### Commands -/

/-- 46_commands.md R341, R343, R349 to R352; 40_bitio_checksums.md R142, R143, R149, R150: NOP, CRC_INIT, CRC_UPDATE,
ADLER_INIT and ADLER_UPDATE end without error with OUT_LEN 0; the first changes no checksum, the others only their own,
to the start value or to the running value over IN. -/
def Obligations.NopAndChecksumCommands : Prop :=
  ∀ s : State, s.canLaunch →
    (∃ t, exec .nop s = .next t ∧ s.commandDone t ∧ t.outLen = 0#31 ∧ t.crcReg = s.crcReg ∧
      t.adlerValue = s.adlerValue) ∧
    (∃ t, exec .crcInit s = .next t ∧ s.commandDone t ∧ t.outLen = 0#31 ∧ t.crcReg = 0xFFFFFFFF#32 ∧
      t.crcValue = 0#32 ∧ t.adlerValue = s.adlerValue) ∧
    (∃ t, exec .adlerInit s = .next t ∧ s.commandDone t ∧ t.outLen = 0#31 ∧ t.adlerValue = 1#32 ∧
      t.crcReg = s.crcReg) ∧
    ∀ data, s.inputIs data →
      (∃ t, exec .crcUpdate s = .next t ∧ s.commandDone t ∧ t.outLen = 0#31 ∧ t.crcReg = data.foldl crcStep s.crcReg ∧
        t.crcValue = data.foldl crcStep s.crcReg ^^^ 0xFFFFFFFF#32 ∧ t.adlerValue = s.adlerValue) ∧
      (∃ t, exec .adlerUpdate s = .next t ∧ s.commandDone t ∧ t.outLen = 0#31 ∧
        t.adlerValue = adlerUpdate s.adlerValue data ∧ t.crcReg = s.crcReg)

/-- 46_commands.md R341, R344, R345, R346; 43_inflate.md R210, R240, R242; 10_state.md R52: INFLATE starts at bit 0 of all
of IN with a block header, ZLIB_DECOMPRESS and ZLIB_INFO with the zlib header, after the length check, which is
UnexpectedEnd below six bytes. OUT_LEN is 0 and INFO empty, S1 and S2 are 1 and 0, the match-finder tables are empty; the
rest of the working state is undefined. -/
def Obligations.DecompressCommandsStart : Prop :=
  ∀ s : State, s.canLaunch →
    (∃ t, exec .inflate s = .next t ∧ t.run = .busy .blk ∧ t.work.framing = .raw ∧
      t.work.rd = { bitpos := 0, base := 0, size := s.inLen.toNat } ∧ t.outLen = 0#31 ∧ t.outBuf = [] ∧ t.info = [] ∧
      t.work.regs.s1 = 1#32 ∧ t.work.regs.s2 = 0#32 ∧ t.work.enc.head = [] ∧ t.work.enc.prev = [] ∧
      t = { s with run := t.run, outLen := t.outLen, outBuf := t.outBuf, info := t.info, work := t.work
                   freeCtr := s.freeCtr + 1 }) ∧
    ∀ i f, (i, f) ∈ [(Instr.zlibDecompress, Framing.zlib), (Instr.zlibInfo, Framing.inspect)] →
      (6 ≤ s.inLen.toNat →
        ∃ t, exec i s = .next t ∧ t.run = .busy .zhdr ∧ t.work.framing = f ∧ t.work.rd.bitpos = 0 ∧ t.outLen = 0#31 ∧
          t.outBuf = [] ∧ t.info = [] ∧ t.work.regs.s1 = 1#32 ∧ t.work.regs.s2 = 0#32 ∧ t.work.enc.head = [] ∧
          t.work.enc.prev = [] ∧
          t = { s with run := t.run, outLen := t.outLen, outBuf := t.outBuf, info := t.info, work := t.work
                       freeCtr := s.freeCtr + 1 }) ∧
      (s.inLen.toNat < 6 → ∃ t, exec i s = .next t ∧ s.commandFailed .unexpectedEnd t)

/-- 46_commands.md R341, R347, R348; 44_deflate.md R264, R290, R291: with a legal configuration DEFLATE delivers the
bytes of the planned stream, ZLIB_COMPRESS the header 78 01, that stream and the Adler-32 of the input, most significant
byte first; output beyond OUT_CAP is OutOfCapacity. The plan is the reference's, or any that meets the contract
(log entry 12). -/
def Obligations.CompressCommandsDeliverTheStream : Prop :=
  ∀ (s : State) (data z : List Byte), s.canLaunch → s.deflateLegal → s.inputIs data →
    z = finalize (streamBits 0 data (choosePlans (startCommand s) data).1) →
    (z.length ≤ s.params.outCap.toNat →
      ∃ t, exec .deflate s = .next t ∧ s.commandDone t ∧ t.outLen.toNat = z.length ∧
        t.outBuf.bytes 0 z.length = some z ∧ t.crcReg = s.crcReg ∧ t.adlerValue = s.adlerValue) ∧
    (s.params.outCap.toNat < z.length → ∃ t, exec .deflate s = .next t ∧ s.commandFailed .outOfCapacity t) ∧
    (z.length + 6 ≤ s.params.outCap.toNat →
      ∃ t, exec .zlibCompress s = .next t ∧ s.commandDone t ∧ t.outLen.toNat = z.length + 6 ∧
        t.outBuf.bytes 0 (z.length + 6) =
          some ([0x78#8, 0x01#8] ++ z ++
            [(adler32 data).extractLsb' 24 8, (adler32 data).extractLsb' 16 8, (adler32 data).extractLsb' 8 8,
              (adler32 data).extractLsb' 0 8]) ∧
        t.crcReg = s.crcReg ∧ t.adlerValue = s.adlerValue) ∧
    (s.params.outCap.toNat < z.length + 6 →
      ∃ t, exec .zlibCompress s = .next t ∧ s.commandFailed .outOfCapacity t)

/-- 44_deflate.md R261: the configuration check of DEFLATE and ZLIB_COMPRESS, in its order, before any input is read. -/
def Obligations.CompressConfigurationIsChecked : Prop :=
  ∀ (i : Instr) (s : State), i = .deflate ∨ i = .zlibCompress → s.canLaunch →
    (s.windowSize.toNat < 256 ∨ 32768 < s.windowSize.toNat →
      ∃ t, exec i s = .next t ∧ s.commandFailed .invalidWindowSize t) ∧
    (256 ≤ s.windowSize.toNat → s.windowSize.toNat ≤ 32768 → (∀ k, s.windowSize.toNat ≠ 2 ^ k) →
      ∃ t, exec i s = .next t ∧ s.commandFailed .powerOfTwoRequired t) ∧
    (∀ k, 8 ≤ k → k ≤ 15 → s.windowSize.toNat = 2 ^ k →
      s.btypeLimit = 3 ∨ s.minMatch.toNat < 3 ∨ 258 < s.minMatch.toNat ∨ s.niceMatch.toNat < 3 ∨
        258 < s.niceMatch.toNat →
      ∃ t, exec i s = .next t ∧ s.commandFailed .badConfig t)

/-- 46_commands.md R341, R353; 45_filter.md R309, R311 to R317, R321 to R323: with a legal configuration and the right
lengths FILTER ends without error, and OUT holds, pass after pass and row after row, each scanline's filter byte and the
scanline filtered by it, the type chosen as the effective strategy says; FILTLEN bytes in all. A predefined filter byte
above 4 is InvalidFilterType when its scanline is reached; lines that do not fit OUT are OutOfCapacity. (BRUTE_SIZE and
another ENTROPY_ARITH are the model's choice, log entries 13 and 14.) -/
def Obligations.FilterCommandCompletes : Prop :=
  ∀ (s : State) (data : List Byte), s.canLaunch → s.imageLegal → s.strategy ≤ 4 → s.inputIs data →
    s.inLen.toNat = s.rawLen → (s.effectiveStrategy = 4 → s.auxLen.toNat = s.lineCount) →
    let lines := s.passScanlines s.usedPasses data
    let bw := byteWidth s.bitsPerPixel
    lines.length = s.lineCount ∧
    ((s.effectiveStrategy = 4 → ∀ k, k < s.lineCount → s.auxLegal k) → s.filtLen ≤ s.params.outCap.toNat →
      ∃ (t : State) (types : List Nat), exec .filter s = .next t ∧ s.commandDone t ∧ types.length = s.lineCount ∧
        (∀ k l, lines[k]? = some l → s.picks k (fun f => filterLine f bw l.raw l.prior) (types.getD k 0)) ∧
        t.outLen.toNat = s.rawLen + s.lineCount ∧
        t.outBuf.bytes 0 t.outLen.toNat = some ((lines.zip types).flatMap fun x => x.1.filtered bw x.2) ∧
        t.crcReg = s.crcReg ∧ t.adlerValue = s.adlerValue) ∧
    (∀ i b, s.effectiveStrategy = 4 → i < s.lineCount → (∀ k, k < i → s.auxLegal k) →
      s.auxBuf.read i = some b → 4 < b.toNat → bytesOfFirst i lines ≤ s.params.outCap.toNat →
      ∃ t, exec .filter s = .next t ∧ s.commandFailed .invalidFilterType t) ∧
    (∀ i, i ≤ s.lineCount → (s.effectiveStrategy = 4 → ∀ k, k < i → s.auxLegal k) →
      s.params.outCap.toNat < bytesOfFirst i lines →
      ∃ t, exec .filter s = .next t ∧ s.commandFailed .outOfCapacity t)

/-- 46_commands.md R341, R354; 45_filter.md R300, R301, R320 to R323: with a legal configuration and the right length
UNFILTER starts with the first scanline of the first pass that has pixels, PRIOR zeros. (Without interlacing the one
pass is numbered 1: the model's choice, log entry 21.) -/
def Obligations.UnfilterCommandStarts : Prop :=
  ∀ s : State, s.canLaunch → s.imageLegal → s.inLen.toNat = s.filtLen →
    ∃ t, exec .unfilter s = .next t ∧ t.run = .busy .scanline ∧ t.work.regs.pass = 1#3 ∧ t.work.regs.row = 0#31 ∧
      t.work.regs.linebytes.toNat = lineBytes s.bitsPerPixel (s.dims 1).1 ∧
      t.work.regs.bytewidth.toNat = max 1 (s.bitsPerPixel / 8) ∧
      t.work.line.prior = List.replicate (lineBytes s.bitsPerPixel (s.dims 1).1) 0#8 ∧ t.work.line.pos = 0 ∧
      t.outLen = 0#31 ∧ t.outBuf = [] ∧ t.info = [] ∧
      t = { s with run := t.run, outLen := t.outLen, outBuf := t.outBuf, info := t.info, work := t.work
                   freeCtr := s.freeCtr + 1 }

/-- 45_filter.md R322, R323: the configuration and length checks of FILTER and UNFILTER, in their order. -/
def Obligations.ImageConfigurationIsChecked : Prop :=
  ∀ (i : Instr) (s : State), i = .filter ∨ i = .unfilter → s.canLaunch →
    (s.colorType ∉ [0, 2, 3, 4, 6] → ∃ t, exec i s = .next t ∧ s.commandFailed .unsupportedColorType t) ∧
    (s.colorType ∈ [0, 2, 3, 4, 6] → s.bitDepth ∉ [1, 2, 4, 8, 16] →
      ∃ t, exec i s = .next t ∧ s.commandFailed .unsupportedBitDepth t) ∧
    (s.colorType = 3 ∧ s.bitDepth = 16 ∨ s.colorType ∈ [2, 4, 6] ∧ s.bitDepth ∈ [1, 2, 4] →
      ∃ t, exec i s = .next t ∧ s.commandFailed .invalidColorMode t) ∧
    (s.colorType ∈ [0, 3] ∧ s.bitDepth ∈ [1, 2, 4] ∨ s.colorType ∈ [0, 2, 3, 4, 6] ∧ s.bitDepth = 8 ∨
        s.colorType ∈ [0, 2, 4, 6] ∧ s.bitDepth = 16 →
      s.width = 0#31 ∨ s.height = 0#31 → ∃ t, exec i s = .next t ∧ s.commandFailed .badConfig t) ∧
    (s.imageLegal → i = .filter → 5 ≤ s.strategy → ∃ t, exec i s = .next t ∧ s.commandFailed .badConfig t) ∧
    (s.imageLegal → i = .filter → s.strategy ≤ 4 →
      s.inLen.toNat ≠ s.rawLen ∨ s.effectiveStrategy = 4 ∧ s.auxLen.toNat ≠ s.lineCount →
      ∃ t, exec i s = .next t ∧ s.commandFailed .lengthMismatch t) ∧
    (s.imageLegal → i = .unfilter → s.inLen.toNat ≠ s.filtLen →
      ∃ t, exec i s = .next t ∧ s.commandFailed .lengthMismatch t)

/-- 46_commands.md R341, R342: every command word that is not one of the twelve opcodes (the rows CMD_ILLEGAL_BIT31 to
CMD_ILLEGAL_BIT8, CMD_ILLEGAL_06, CMD_ILLEGAL_0C, CMD_ILLEGAL_12, CMD_ILLEGAL_14, CMD_ILLEGAL_18, CMD_ILLEGAL_20,
CMD_ILLEGAL_40 and CMD_ILLEGAL_80) ends at once with BadCommand. -/
def Obligations.IllegalCommandsEndWithBadCommand : Prop :=
  (∀ (i : Instr) (s : State), i.format = .cmdw → i.value ∉ opcodes → s.canLaunch →
    ∃ t, exec i s = .next t ∧ s.commandFailed .badCommand t) ∧
  ∀ v : Word, v.toNat ∉ opcodes → ∃ i, decode .cmdw v.toNat = some i ∧ i.format = .cmdw ∧ i.value ∉ opcodes

/-- 70_reset_and_hazards.md R420; 10_state.md R41, R54: every command word is ignored while STATE = BUSY; with a length
beyond its capacity the launch is outside the spec and the model refuses it by name. -/
def Obligations.CommandsAreAcceptedOnlyWhenLaunchable : Prop :=
  ∀ (i : Instr) (s : State), i.format = .cmdw →
    (s.isBusy = true → exec i s = .next s) ∧
      (s.isBusy = false → s.params.inCap.toNat < s.inLen.toNat ∨ s.params.auxCap.toNat < s.auxLen.toNat →
        exec i s = .refused .launchBeyondCapacity)

/-! ### The whole machine -/

/-- 46_commands.md R341, 60_exceptions.md R380: no instruction changes the configuration registers, IN, IN_LEN, AUX or
AUX_LEN. -/
def Obligations.NothingChangesTheHostSide : Prop :=
  ∀ (i : Instr) (s t : State), exec i s = .next t → s.hostSide t

/-- 70_reset_and_hazards.md R423, 10_state.md R37, R38: only CRC_INIT and CRC_UPDATE write CRC_REG, only ADLER_INIT and
ADLER_UPDATE write ADLER_VALUE. -/
def Obligations.ChecksumsAreWrittenOnlyByTheirCommands : Prop :=
  ∀ (i : Instr) (s t : State), exec i s = .next t →
    (i ≠ .crcInit → i ≠ .crcUpdate → t.crcReg = s.crcReg) ∧
      (i ≠ .adlerInit → i ≠ .adlerUpdate → t.adlerValue = s.adlerValue)

/-- 10_state.md R53, 70_reset_and_hazards.md R410: the invariant holds after reset. What it says there of BITPOS
(Inv.cursor) and INFO (Inv.idleClean) rests on the model's choice, since R53 leaves both unspecified: State.reset makes
the working state zero and INFO empty (DESIGN CHOICE, log entry 1); that the buffers list nothing is log entry 2. -/
def Obligations.InvariantHoldsAtReset : Prop := State.reset.Inv

/-- Every step, of the engine or of the host, keeps the invariant: the buffers' canonical form, OUT exactly the bytes
below OUT_LEN and within OUT_CAP (20_memory.md R63), the Adler-32 halves reduced (40_bitio_checksums.md R146), BITPOS
within the active input (10_state.md R22), the error registers and INFO as STATE says (R25, R26, R50, 60_exceptions.md
R380), InvalidPaeth and BadCrc never raised (R376, R377), and the decoder's tables and counters in their ranges. That
INFO is empty and BITPOS within the active input right after a hardware reset is the model's choice (DESIGN CHOICE, log
entry 1). -/
def Obligations.EveryStepKeepsTheInvariant : Prop :=
  ∀ s t : State, s.Inv → step s = .next t → t.Inv

/-- 30_encoding.md R119, 10_state.md R54: from a state with the invariant, with every byte of IN below IN_LEN written,
the engine's step always answers a next state. -/
def Obligations.EngineNeverStops : Prop :=
  ∀ s : State, s.Inv → s.host = [] → (∀ a, a < s.inLen.toNat → (s.inBuf.read a).isSome = true) →
    ∃ t, step s = .next t

/-- 70_reset_and_hazards.md R430, 60_exceptions.md R384: a running command terminates, on every input: within
8 * IN_LEN + 2 elements STATE leaves BUSY. -/
def Obligations.EveryCommandTerminates : Prop :=
  ∀ s : State, s.Inv → s.host = [] → (∀ a, a < s.inLen.toNat → (s.inBuf.read a).isSome = true) →
    ∃ t : State, Host.Core.run Sys2Proof.core (8 * s.inLen.toNat + 2) s = .next t ∧ t.isBusy = false
end

