-- ==== Sys2Proof/Laws/Filter.lean ====
section
/-! SUPPORT. Laws of the filter unit: lines keep their length, and what the choice among scores and the entropy strategy
answer. -/

namespace Sys2Proof.Machine

theorem filterFrom_length (f bw : Nat) (rawRev priorRev raw prior : List Byte) :
    (filterFrom f bw rawRev priorRev raw prior).length = raw.length := by
  induction raw generalizing rawRev priorRev prior with
  | nil => rfl
  | cons x rest ih => simp [filterFrom, ih]

theorem unfilterFrom_length (f bw : Nat) (rawRev priorRev out prior : List Byte) :
    (unfilterFrom f bw rawRev priorRev out prior).length = out.length := by
  induction out generalizing rawRev priorRev prior with
  | nil => rfl
  | cons x rest ih => simp [unfilterFrom, ih]

/-- A filtered line is as long as the raw line. -/
@[simp] theorem filterLine_length (f bw : Nat) (raw prior : List Byte) :
    (filterLine f bw raw prior).length = raw.length := filterFrom_length ..

/-- A reconstructed line is as long as the filtered line. -/
@[simp] theorem unfilterLine_length (f bw : Nat) (out prior : List Byte) :
    (unfilterLine f bw out prior).length = out.length := unfilterFrom_length ..

/-! ### The choice among scores -/

/-- The loop of `least`, behind the scores `pre` already seen. -/
theorem leastFrom_spec (i best at_ : Nat) (scores : List Nat) (pre : List Nat) (hi : pre.length = i)
    (ha : pre[at_]? = some best) (hb : ∀ (k x : Nat), pre[k]? = some x → best ≤ x ∧ (k < at_ → best < x)) :
    ∃ m, (pre ++ scores)[leastFrom i best at_ scores]? = some m ∧
      ∀ (k x : Nat), (pre ++ scores)[k]? = some x → m ≤ x ∧ (k < leastFrom i best at_ scores → m < x) := by
  induction scores generalizing i best at_ pre with
  | nil => exact ⟨best, by simpa [leastFrom] using ha, by simpa [leastFrom] using hb⟩
  | cons y rest ih =>
    have hat : at_ < pre.length := (List.getElem?_eq_some_iff.mp ha).1
    rw [show pre ++ y :: rest = (pre ++ [y]) ++ rest by simp]
    unfold leastFrom
    split
    · rename_i hy
      refine ih (i + 1) y i (pre ++ [y]) (by simp [hi]) (by simp [← hi]) ?_
      intro k x hk
      rcases Nat.lt_or_ge k pre.length with hlt | hge
      · rw [List.getElem?_append_left hlt] at hk
        have := (hb k x hk).1
        exact ⟨by omega, fun _ => by omega⟩
      · rw [List.getElem?_append_right hge] at hk
        obtain ⟨h1, h2⟩ := List.getElem?_eq_some_iff.mp hk
        simp at h1 h2
        exact ⟨by omega, fun h => by omega⟩
    · rename_i hy
      refine ih (i + 1) best at_ (pre ++ [y]) (by simp [hi]) (by rw [List.getElem?_append_left hat]; exact ha) ?_
      intro k x hk
      rcases Nat.lt_or_ge k pre.length with hlt | hge
      · rw [List.getElem?_append_left hlt] at hk; exact hb k x hk
      · rw [List.getElem?_append_right hge] at hk
        obtain ⟨h1, h2⟩ := List.getElem?_eq_some_iff.mp hk
        simp at h1 h2
        exact ⟨by omega, fun h => by omega⟩

/-- `least` answers the smallest index with the least score. -/
theorem least_spec {scores : List Nat} (h : scores ≠ []) :
    ∃ m, scores[least scores]? = some m ∧
      ∀ (k x : Nat), scores[k]? = some x → m ≤ x ∧ (k < least scores → m < x) := by
  cases scores with
  | nil => exact absurd rfl h
  | cons y rest =>
    refine leastFrom_spec 1 y 0 rest [y] rfl rfl ?_
    intro k x hk
    obtain ⟨h1, h2⟩ := List.getElem?_eq_some_iff.mp hk
    simp at h1 h2
    omega

/-- The loop of `greatest`, behind the scores `pre` already seen. -/
theorem greatestFrom_spec (i best at_ : Nat) (scores : List Nat) (pre : List Nat) (hi : pre.length = i)
    (ha : pre[at_]? = some best) (hb : ∀ (k x : Nat), pre[k]? = some x → x ≤ best ∧ (k < at_ → x < best)) :
    ∃ m, (pre ++ scores)[greatestFrom i best at_ scores]? = some m ∧
      ∀ (k x : Nat), (pre ++ scores)[k]? = some x → x ≤ m ∧ (k < greatestFrom i best at_ scores → x < m) := by
  induction scores generalizing i best at_ pre with
  | nil => exact ⟨best, by simpa [greatestFrom] using ha, by simpa [greatestFrom] using hb⟩
  | cons y rest ih =>
    have hat : at_ < pre.length := (List.getElem?_eq_some_iff.mp ha).1
    rw [show pre ++ y :: rest = (pre ++ [y]) ++ rest by simp]
    unfold greatestFrom
    split
    · rename_i hy
      refine ih (i + 1) y i (pre ++ [y]) (by simp [hi]) (by simp [← hi]) ?_
      intro k x hk
      rcases Nat.lt_or_ge k pre.length with hlt | hge
      · rw [List.getElem?_append_left hlt] at hk
        have := (hb k x hk).1
        exact ⟨by omega, fun _ => by omega⟩
      · rw [List.getElem?_append_right hge] at hk
        obtain ⟨h1, h2⟩ := List.getElem?_eq_some_iff.mp hk
        simp at h1 h2
        exact ⟨by omega, fun h => by omega⟩
    · rename_i hy
      refine ih (i + 1) best at_ (pre ++ [y]) (by simp [hi]) (by rw [List.getElem?_append_left hat]; exact ha) ?_
      intro k x hk
      rcases Nat.lt_or_ge k pre.length with hlt | hge
      · rw [List.getElem?_append_left hlt] at hk; exact hb k x hk
      · rw [List.getElem?_append_right hge] at hk
        obtain ⟨h1, h2⟩ := List.getElem?_eq_some_iff.mp hk
        simp at h1 h2
        exact ⟨by omega, fun h => by omega⟩

/-- `greatest` answers the smallest index with the greatest score. -/
theorem greatest_spec {scores : List Nat} (h : scores ≠ []) :
    ∃ m, scores[greatest scores]? = some m ∧
      ∀ (k x : Nat), scores[k]? = some x → x ≤ m ∧ (k < greatest scores → x < m) := by
  cases scores with
  | nil => exact absurd rfl h
  | cons y rest =>
    refine greatestFrom_spec 1 y 0 rest [y] rfl rfl ?_
    intro k x hk
    obtain ⟨h1, h2⟩ := List.getElem?_eq_some_iff.mp hk
    simp at h1 h2
    omega

/-- What `arithmeticAgrees` says. -/
theorem arithmeticAgrees_iff (trial : List (List Byte)) :
    arithmeticAgrees trial = true ↔ ∀ a ∈ trial, ∀ b ∈ trial, clearlyLower a b = true →
      Config.freeEntropy (histogram a) < Config.freeEntropy (histogram b) := by
  simp only [arithmeticAgrees, List.all_eq_true, Bool.or_eq_true, Bool.not_eq_true', decide_eq_true_eq]
  constructor
  · intro h a ha b hb hc
    exact (h a ha b hb).resolve_left (by simp [hc])
  · intro h a ha b hb
    cases hc : clearlyLower a b
    · exact .inl rfl
    · exact .inr (h a ha b hb hc)

/-- A clearly lower entropy is a lower one over the reals. -/
theorem histogramWeight_lt_of_clearlyLower {a b : List Byte} (h : clearlyLower a b = true) :
    histogramWeight b < histogramWeight a := by
  simp only [clearlyLower, decide_eq_true_eq] at h
  have h2 : 1 ≤ 2 ^ (b.length * (Config.freeEntropyError b.length).1) := Nat.one_le_two_pow
  refine Nat.lt_of_not_le fun hle => ?_
  exact absurd (Nat.lt_of_le_of_lt (Nat.le_mul_of_pos_right _ h2) h) (Nat.not_lt.mpr (Nat.pow_le_pow_left hle _))

end Sys2Proof.Machine
end

