-- ==== Sys2Proof/Laws/Huffman.lean ====
section
/-! SUPPORT. Laws of the Huffman tables: their sizes, the symbols a table can give, and the fixed tables. -/

namespace Sys2Proof.Machine

@[simp] theorem buildCodes_len (limit : Nat) (len : List Nat) : (buildCodes limit len).len = len := rfl

@[simp] theorem buildCodes_limit (limit : Nat) (len : List Nat) : (buildCodes limit len).limit = limit := rfl

@[simp] theorem buildCodes_code_length (limit : Nat) (len : List Nat) :
    (buildCodes limit len).code.length = len.length := by
  simp [buildCodes]

/-- A list filled up to `n` entries has `n` entries, unless it had more. -/
theorem padTo_length (n : Nat) (l : List Nat) (h : l.length ≤ n) : (padTo n l).length = n := by
  simp [padTo]; omega

/-- The symbol a search finds lies among the table's symbols. -/
theorem findSymbol_lt {n c s v : Nat} {len code : List Nat} (h : findSymbol n c s len code = some v) :
    s ≤ v ∧ v < s + len.length := by
  induction len generalizing s code with
  | nil => simp [findSymbol] at h
  | cons l len' ih =>
    cases code with
    | nil => simp [findSymbol] at h
    | cons k code' =>
      simp only [findSymbol] at h
      split at h
      · cases h; simp
      · have := ih h
        simp only [List.length_cons]; omega

/-- The symbol a search finds has the length and the code searched for. -/
theorem findSymbol_eq_some {n c s v : Nat} {len code : List Nat} (h : findSymbol n c s len code = some v) :
    len[v - s]? = some n ∧ code[v - s]? = some c := by
  induction len generalizing s code with
  | nil => simp [findSymbol] at h
  | cons l len' ih =>
    cases code with
    | nil => simp [findSymbol] at h
    | cons k code' =>
      simp only [findSymbol] at h
      split at h
      · rename_i hk; cases h; simp [hk.1, hk.2]
      · have hlt := findSymbol_lt h
        obtain ⟨h1, h2⟩ := ih h
        rw [show v - s = v - (s + 1) + 1 by omega]
        simpa using ⟨h1, h2⟩

/-- Where no symbol has the length and the code, none is found. -/
theorem findSymbol_eq_none {n c s : Nat} {len code : List Nat} (h : findSymbol n c s len code = none) (i : Nat) :
    ¬ (len[i]? = some n ∧ code[i]? = some c) := by
  induction len generalizing s code i with
  | nil => simp
  | cons l len' ih =>
    cases code with
    | nil => simp
    | cons k code' =>
      simp only [findSymbol] at h
      split at h
      · cases h
      · rename_i hk
        cases i with
        | zero => simpa using hk
        | succ j => simpa using ih h j

end Sys2Proof.Machine

namespace Sys2Proof.Laws

open Sys2Proof.Machine

set_option maxRecDepth 20000 in
/-- The fixed literal/length table as listed is the one the code assignment gives for the fixed lengths (30_encoding.md
R111, R112). -/
theorem fixedLL_eq_buildCodes : fixedLL = buildCodes Config.maxLenLL fixedLLLen := by decide +kernel

/-- The fixed distance table as listed is the one the code assignment gives for the fixed lengths (30_encoding.md R111,
R112). -/
theorem fixedD_eq_buildCodes : fixedD = buildCodes Config.maxLenD fixedDLen := by decide +kernel

end Sys2Proof.Laws
end

