-- ==== Sys2Proof/Laws/Memory.lean ====
section
/-! SUPPORT. Laws of the byte buffers: reading after writing, and the canonical form. -/

namespace Sys2Proof.Machine

/-- A byte reads back where it was written. -/
@[simp] theorem Memory.read_write_same (m : Memory) (a : Nat) (b : Byte) :
    Memory.read (Memory.write m a b) a = some b := by
  induction m with
  | nil => simp [Memory.write, Memory.read]
  | cons c rest ih =>
    obtain ⟨x, v⟩ := c
    by_cases h1 : a < x
    · simp [Memory.write, Memory.read, h1]
    · by_cases h2 : a = x
      · subst h2; simp [Memory.write, Memory.read]
      · have h3 : x ≠ a := fun h => h2 h.symm
        simp [Memory.write, Memory.read, h1, h2, h3, ih]

/-- A write leaves every other byte alone. -/
theorem Memory.read_write_other (m : Memory) (a a' : Nat) (b : Byte) (h : a' ≠ a) :
    Memory.read (Memory.write m a b) a' = Memory.read m a' := by
  induction m with
  | nil => simp [Memory.write, Memory.read, Ne.symm h]
  | cons c rest ih =>
    obtain ⟨x, v⟩ := c
    have h' : a ≠ a' := fun e => h e.symm
    by_cases h1 : a < x
    · simp [Memory.write, Memory.read, h1, h']
    · by_cases h2 : a = x
      · subst h2; simp [Memory.write, Memory.read, h']
      · simp [Memory.write, Memory.read, h1, h2, ih]

/-- A bound below which nothing is listed stays one. -/
theorem Memory.above_write (m : Memory) (lo a : Nat) (b : Byte) (hm : Memory.above lo m = true) (h : lo < a) :
    Memory.above lo (Memory.write m a b) = true := by
  induction m generalizing lo with
  | nil => simp [Memory.write, Memory.above, h]
  | cons c rest ih =>
    obtain ⟨x, v⟩ := c
    simp only [Memory.above, Bool.and_eq_true, decide_eq_true_eq] at hm
    by_cases h1 : a < x
    · simp [Memory.write, Memory.above, h, h1, hm.2]
    · by_cases h2 : a = x
      · subst h2; simp [Memory.write, Memory.above, hm.1, hm.2]
      · have h4 : x < a := by omega
        simp [Memory.write, Memory.above, h1, h2, hm.1, ih x hm.2 h4]

/-- Writing keeps the canonical form. -/
theorem Memory.wf_write (m : Memory) (a : Nat) (b : Byte) (hm : Memory.wf m = true) :
    Memory.wf (Memory.write m a b) = true := by
  cases m with
  | nil => simp [Memory.write, Memory.wf, Memory.above]
  | cons c rest =>
    obtain ⟨x, v⟩ := c
    simp only [Memory.wf] at hm
    by_cases h1 : a < x
    · simp [Memory.write, Memory.wf, Memory.above, h1, hm]
    · by_cases h2 : a = x
      · subst h2; simp [Memory.write, Memory.wf, hm]
      · have h4 : x < a := by omega
        simp [Memory.write, Memory.wf, h1, h2, Memory.above_write rest x a b hm h4]

/-- A run of bytes lists nothing below its start. -/
theorem Memory.above_ofBytes (lo start : Nat) (bs : List Byte) (h : lo < start) :
    Memory.above lo (Memory.ofBytes start bs) = true := by
  induction bs generalizing lo start with
  | nil => rfl
  | cons b rest ih => simp [Memory.ofBytes, Memory.above, h, ih start (start + 1) (Nat.lt_succ_self start)]

/-- A run of bytes is in canonical form. -/
theorem Memory.wf_ofBytes (start : Nat) (bs : List Byte) : Memory.wf (Memory.ofBytes start bs) = true := by
  cases bs with
  | nil => rfl
  | cons b rest =>
    simp [Memory.ofBytes, Memory.wf, Memory.above_ofBytes start (start + 1) rest (Nat.lt_succ_self start)]

/-- Below its start a run of bytes has no byte. -/
theorem Memory.read_ofBytes_below (start a : Nat) (bs : List Byte) (h : a < start) :
    Memory.read (Memory.ofBytes start bs) a = none := by
  induction bs generalizing start with
  | nil => rfl
  | cons b rest ih =>
    have h' : start ≠ a := by omega
    simp [Memory.ofBytes, Memory.read, h', ih (start + 1) (by omega)]

/-- A run of bytes, read at an index counted from its start. -/
theorem Memory.read_ofBytes (start i : Nat) (bs : List Byte) :
    Memory.read (Memory.ofBytes start bs) (start + i) = bs[i]? := by
  induction bs generalizing start i with
  | nil => rfl
  | cons b rest ih =>
    cases i with
    | zero => simp [Memory.ofBytes, Memory.read]
    | succ j =>
      have h := ih (start + 1) j
      rw [show start + 1 + j = start + (j + 1) by omega] at h
      simp [Memory.ofBytes, Memory.read, h]

/-- Bytes taken together are as many as were asked for. -/
theorem Memory.bytes_length {m : Memory} {start n : Nat} {bs : List Byte} (h : Memory.bytes m start n = some bs) :
    bs.length = n := by
  induction n generalizing start bs with
  | zero => simp only [Memory.bytes, Option.some.injEq] at h; simp [← h]
  | succ k ih =>
    simp only [Memory.bytes] at h
    split at h
    · rename_i b bs' hb hbs
      simp only [Option.some.injEq] at h
      simp [← h, ih hbs]
    · cases h

/-- The bytes from `start` on are exactly what each index reads as. -/
theorem Memory.bytes_eq_some_iff (m : Memory) (start n : Nat) (bs : List Byte) :
    Memory.bytes m start n = some bs ↔ bs.length = n ∧ ∀ i, i < n → Memory.read m (start + i) = bs[i]? := by
  induction n generalizing start bs with
  | zero =>
    simp only [Memory.bytes, Option.some.injEq]
    constructor
    · rintro rfl; simp
    · rintro ⟨h, -⟩; exact (List.length_eq_zero_iff.mp h).symm
  | succ k ih =>
    simp only [Memory.bytes]
    constructor
    · intro h
      split at h
      · rename_i b bs' hb hbs
        simp only [Option.some.injEq] at h
        subst h
        obtain ⟨hl, hr⟩ := (ih (start + 1) bs').mp hbs
        refine ⟨by simp [hl], fun i hi => ?_⟩
        cases i with
        | zero => simpa using hb
        | succ j =>
          rw [show start + (j + 1) = start + 1 + j by omega]
          simpa using hr j (by omega)
      · cases h
    · rintro ⟨hl, hr⟩
      cases bs with
      | nil => simp at hl
      | cons b bs' =>
        have h0 : Memory.read m start = some b := by simpa using hr 0 (by omega)
        have h1 : Memory.bytes m (start + 1) k = some bs' := by
          refine (ih (start + 1) bs').mpr ⟨by simpa using hl, fun i hi => ?_⟩
          have := hr (i + 1) (by omega)
          rw [show start + (i + 1) = start + 1 + i by omega] at this
          simpa using this
        simp [h0, h1]

/-- The bytes from `start` on are there exactly when every one of them is. -/
theorem Memory.bytes_isSome_iff (m : Memory) (start n : Nat) :
    (Memory.bytes m start n).isSome = true ↔ ∀ i, i < n → (Memory.read m (start + i)).isSome = true := by
  induction n generalizing start with
  | zero => simp [Memory.bytes]
  | succ k ih =>
    constructor
    · intro h i hi
      obtain ⟨bs, hbs⟩ := Option.isSome_iff_exists.mp h
      obtain ⟨hl, hr⟩ := (Memory.bytes_eq_some_iff m start (k + 1) bs).mp hbs
      rw [hr i hi]
      simp [hl, hi]
    · intro h
      have h0 := h 0 (by omega)
      have h1 : (Memory.bytes m (start + 1) k).isSome = true := by
        refine (ih (start + 1)).mpr fun i hi => ?_
        rw [show start + 1 + i = start + (i + 1) by omega]
        exact h (i + 1) (by omega)
      obtain ⟨b, hb⟩ := Option.isSome_iff_exists.mp h0
      obtain ⟨bs, hbs⟩ := Option.isSome_iff_exists.mp h1
      rw [Nat.add_zero] at hb
      simp [Memory.bytes, hb, hbs]

/-- Writing just behind the listed indices `0 .. n` extends them by one. -/
theorem Memory.keys_write_end (m : Memory) (lo n : Nat) (b : Byte)
    (h : m.map Prod.fst = (List.range n).map (lo + ·)) :
    (Memory.write m (lo + n) b).map Prod.fst = (List.range (n + 1)).map (lo + ·) := by
  induction m generalizing lo n with
  | nil =>
    have hn : n = 0 := by
      cases n with
      | zero => rfl
      | succ k => simp [List.range_succ] at h
    subst hn; simp [Memory.write]
  | cons c rest ih =>
    obtain ⟨x, v⟩ := c
    cases n with
    | zero => simp at h
    | succ k =>
      rw [List.range_succ_eq_map] at h
      simp only [List.map_cons, List.map_map, List.cons.injEq, Nat.add_zero] at h
      obtain ⟨hx, hr⟩ := h
      subst hx
      have hr' : rest.map Prod.fst = (List.range k).map ((x + 1) + ·) := by
        rw [hr]; apply List.map_congr_left; intro a _; simp; omega
      have := ih (x + 1) k hr'
      rw [show x + 1 + k = x + (k + 1) by omega] at this
      have h1 : ¬ x + (k + 1) < x := by omega
      have h2 : ¬ x + (k + 1) = x := by omega
      simp only [Memory.write, h1, h2, if_false, List.map_cons, this]
      rw [List.range_succ_eq_map (n := k + 1)]
      simp only [List.map_cons, List.map_map, Nat.add_zero, List.cons.injEq, true_and]
      apply List.map_congr_left; intro a _; simp; omega

/-- The buffers after reset are in canonical form. -/
theorem reset_buffers_wf : State.reset.inBuf.wf = true ∧ State.reset.outBuf.wf = true ∧ State.reset.auxBuf.wf = true :=
  ⟨rfl, rfl, rfl⟩

end Sys2Proof.Machine
end

