-- ==== Sys2Proof/Laws/State.lean ====
section
/-! SUPPORT. Each update of State, field by field: what it writes and what it leaves. Every lemma holds by definition and
is a simp lemma, so that no later proof unfolds a record update. -/

namespace Sys2Proof.Machine

/-! ### setRun -/

@[simp] theorem State.setRun_run (s : State) (r : RunState) : (s.setRun r).run = r := rfl
@[simp] theorem State.setRun_errKind (s : State) (r : RunState) : (s.setRun r).errKind = s.errKind := rfl
@[simp] theorem State.setRun_errCode (s : State) (r : RunState) : (s.setRun r).errCode = s.errCode := rfl
@[simp] theorem State.setRun_inLen (s : State) (r : RunState) : (s.setRun r).inLen = s.inLen := rfl
@[simp] theorem State.setRun_outLen (s : State) (r : RunState) : (s.setRun r).outLen = s.outLen := rfl
@[simp] theorem State.setRun_auxLen (s : State) (r : RunState) : (s.setRun r).auxLen = s.auxLen := rfl
@[simp] theorem State.setRun_cfgInflate (s : State) (r : RunState) : (s.setRun r).cfgInflate = s.cfgInflate := rfl
@[simp] theorem State.setRun_cfgDeflate (s : State) (r : RunState) : (s.setRun r).cfgDeflate = s.cfgDeflate := rfl
@[simp] theorem State.setRun_windowSize (s : State) (r : RunState) : (s.setRun r).windowSize = s.windowSize := rfl
@[simp] theorem State.setRun_minMatch (s : State) (r : RunState) : (s.setRun r).minMatch = s.minMatch := rfl
@[simp] theorem State.setRun_niceMatch (s : State) (r : RunState) : (s.setRun r).niceMatch = s.niceMatch := rfl
@[simp] theorem State.setRun_cfgFilter (s : State) (r : RunState) : (s.setRun r).cfgFilter = s.cfgFilter := rfl
@[simp] theorem State.setRun_width (s : State) (r : RunState) : (s.setRun r).width = s.width := rfl
@[simp] theorem State.setRun_height (s : State) (r : RunState) : (s.setRun r).height = s.height := rfl
@[simp] theorem State.setRun_crcReg (s : State) (r : RunState) : (s.setRun r).crcReg = s.crcReg := rfl
@[simp] theorem State.setRun_adlerS1 (s : State) (r : RunState) : (s.setRun r).adlerS1 = s.adlerS1 := rfl
@[simp] theorem State.setRun_adlerS2 (s : State) (r : RunState) : (s.setRun r).adlerS2 = s.adlerS2 := rfl
@[simp] theorem State.setRun_inBuf (s : State) (r : RunState) : (s.setRun r).inBuf = s.inBuf := rfl
@[simp] theorem State.setRun_outBuf (s : State) (r : RunState) : (s.setRun r).outBuf = s.outBuf := rfl
@[simp] theorem State.setRun_auxBuf (s : State) (r : RunState) : (s.setRun r).auxBuf = s.auxBuf := rfl
@[simp] theorem State.setRun_info (s : State) (r : RunState) : (s.setRun r).info = s.info := rfl
@[simp] theorem State.setRun_work (s : State) (r : RunState) : (s.setRun r).work = s.work := rfl
@[simp] theorem State.setRun_params (s : State) (r : RunState) : (s.setRun r).params = s.params := rfl
@[simp] theorem State.setRun_host (s : State) (r : RunState) : (s.setRun r).host = s.host := rfl
@[simp] theorem State.setRun_hostData (s : State) (r : RunState) : (s.setRun r).hostData = s.hostData := rfl
@[simp] theorem State.setRun_freeCtr (s : State) (r : RunState) : (s.setRun r).freeCtr = s.freeCtr := rfl

@[simp] theorem State.setRun_inputBits (s : State) (r : RunState) : (s.setRun r).inputBits = s.inputBits := rfl

/-! ### setOut -/

@[simp] theorem State.setOut_run (s : State) (m : Memory) (n : BitVec 31) : (s.setOut m n).run = s.run := rfl
@[simp] theorem State.setOut_errKind (s : State) (m : Memory) (n : BitVec 31) : (s.setOut m n).errKind = s.errKind := rfl
@[simp] theorem State.setOut_errCode (s : State) (m : Memory) (n : BitVec 31) : (s.setOut m n).errCode = s.errCode := rfl
@[simp] theorem State.setOut_inLen (s : State) (m : Memory) (n : BitVec 31) : (s.setOut m n).inLen = s.inLen := rfl
@[simp] theorem State.setOut_outLen (s : State) (m : Memory) (n : BitVec 31) : (s.setOut m n).outLen = n := rfl
@[simp] theorem State.setOut_auxLen (s : State) (m : Memory) (n : BitVec 31) : (s.setOut m n).auxLen = s.auxLen := rfl
@[simp] theorem State.setOut_cfgInflate (s : State) (m : Memory) (n : BitVec 31) : (s.setOut m n).cfgInflate = s.cfgInflate := rfl
@[simp] theorem State.setOut_cfgDeflate (s : State) (m : Memory) (n : BitVec 31) : (s.setOut m n).cfgDeflate = s.cfgDeflate := rfl
@[simp] theorem State.setOut_windowSize (s : State) (m : Memory) (n : BitVec 31) : (s.setOut m n).windowSize = s.windowSize := rfl
@[simp] theorem State.setOut_minMatch (s : State) (m : Memory) (n : BitVec 31) : (s.setOut m n).minMatch = s.minMatch := rfl
@[simp] theorem State.setOut_niceMatch (s : State) (m : Memory) (n : BitVec 31) : (s.setOut m n).niceMatch = s.niceMatch := rfl
@[simp] theorem State.setOut_cfgFilter (s : State) (m : Memory) (n : BitVec 31) : (s.setOut m n).cfgFilter = s.cfgFilter := rfl
@[simp] theorem State.setOut_width (s : State) (m : Memory) (n : BitVec 31) : (s.setOut m n).width = s.width := rfl
@[simp] theorem State.setOut_height (s : State) (m : Memory) (n : BitVec 31) : (s.setOut m n).height = s.height := rfl
@[simp] theorem State.setOut_crcReg (s : State) (m : Memory) (n : BitVec 31) : (s.setOut m n).crcReg = s.crcReg := rfl
@[simp] theorem State.setOut_adlerS1 (s : State) (m : Memory) (n : BitVec 31) : (s.setOut m n).adlerS1 = s.adlerS1 := rfl
@[simp] theorem State.setOut_adlerS2 (s : State) (m : Memory) (n : BitVec 31) : (s.setOut m n).adlerS2 = s.adlerS2 := rfl
@[simp] theorem State.setOut_inBuf (s : State) (m : Memory) (n : BitVec 31) : (s.setOut m n).inBuf = s.inBuf := rfl
@[simp] theorem State.setOut_outBuf (s : State) (m : Memory) (n : BitVec 31) : (s.setOut m n).outBuf = m := rfl
@[simp] theorem State.setOut_auxBuf (s : State) (m : Memory) (n : BitVec 31) : (s.setOut m n).auxBuf = s.auxBuf := rfl
@[simp] theorem State.setOut_info (s : State) (m : Memory) (n : BitVec 31) : (s.setOut m n).info = s.info := rfl
@[simp] theorem State.setOut_work (s : State) (m : Memory) (n : BitVec 31) : (s.setOut m n).work = s.work := rfl
@[simp] theorem State.setOut_params (s : State) (m : Memory) (n : BitVec 31) : (s.setOut m n).params = s.params := rfl
@[simp] theorem State.setOut_host (s : State) (m : Memory) (n : BitVec 31) : (s.setOut m n).host = s.host := rfl
@[simp] theorem State.setOut_hostData (s : State) (m : Memory) (n : BitVec 31) : (s.setOut m n).hostData = s.hostData := rfl
@[simp] theorem State.setOut_freeCtr (s : State) (m : Memory) (n : BitVec 31) : (s.setOut m n).freeCtr = s.freeCtr := rfl

@[simp] theorem State.setOut_inputBits (s : State) (m : Memory) (n : BitVec 31) : (s.setOut m n).inputBits = s.inputBits := rfl
@[simp] theorem State.setOut_isBusy (s : State) (m : Memory) (n : BitVec 31) : (s.setOut m n).isBusy = s.isBusy := rfl

/-! ### setInfo -/

@[simp] theorem State.setInfo_run (s : State) (l : List BlockInfo) : (s.setInfo l).run = s.run := rfl
@[simp] theorem State.setInfo_errKind (s : State) (l : List BlockInfo) : (s.setInfo l).errKind = s.errKind := rfl
@[simp] theorem State.setInfo_errCode (s : State) (l : List BlockInfo) : (s.setInfo l).errCode = s.errCode := rfl
@[simp] theorem State.setInfo_inLen (s : State) (l : List BlockInfo) : (s.setInfo l).inLen = s.inLen := rfl
@[simp] theorem State.setInfo_outLen (s : State) (l : List BlockInfo) : (s.setInfo l).outLen = s.outLen := rfl
@[simp] theorem State.setInfo_auxLen (s : State) (l : List BlockInfo) : (s.setInfo l).auxLen = s.auxLen := rfl
@[simp] theorem State.setInfo_cfgInflate (s : State) (l : List BlockInfo) : (s.setInfo l).cfgInflate = s.cfgInflate := rfl
@[simp] theorem State.setInfo_cfgDeflate (s : State) (l : List BlockInfo) : (s.setInfo l).cfgDeflate = s.cfgDeflate := rfl
@[simp] theorem State.setInfo_windowSize (s : State) (l : List BlockInfo) : (s.setInfo l).windowSize = s.windowSize := rfl
@[simp] theorem State.setInfo_minMatch (s : State) (l : List BlockInfo) : (s.setInfo l).minMatch = s.minMatch := rfl
@[simp] theorem State.setInfo_niceMatch (s : State) (l : List BlockInfo) : (s.setInfo l).niceMatch = s.niceMatch := rfl
@[simp] theorem State.setInfo_cfgFilter (s : State) (l : List BlockInfo) : (s.setInfo l).cfgFilter = s.cfgFilter := rfl
@[simp] theorem State.setInfo_width (s : State) (l : List BlockInfo) : (s.setInfo l).width = s.width := rfl
@[simp] theorem State.setInfo_height (s : State) (l : List BlockInfo) : (s.setInfo l).height = s.height := rfl
@[simp] theorem State.setInfo_crcReg (s : State) (l : List BlockInfo) : (s.setInfo l).crcReg = s.crcReg := rfl
@[simp] theorem State.setInfo_adlerS1 (s : State) (l : List BlockInfo) : (s.setInfo l).adlerS1 = s.adlerS1 := rfl
@[simp] theorem State.setInfo_adlerS2 (s : State) (l : List BlockInfo) : (s.setInfo l).adlerS2 = s.adlerS2 := rfl
@[simp] theorem State.setInfo_inBuf (s : State) (l : List BlockInfo) : (s.setInfo l).inBuf = s.inBuf := rfl
@[simp] theorem State.setInfo_outBuf (s : State) (l : List BlockInfo) : (s.setInfo l).outBuf = s.outBuf := rfl
@[simp] theorem State.setInfo_auxBuf (s : State) (l : List BlockInfo) : (s.setInfo l).auxBuf = s.auxBuf := rfl
@[simp] theorem State.setInfo_info (s : State) (l : List BlockInfo) : (s.setInfo l).info = l := rfl
@[simp] theorem State.setInfo_work (s : State) (l : List BlockInfo) : (s.setInfo l).work = s.work := rfl
@[simp] theorem State.setInfo_params (s : State) (l : List BlockInfo) : (s.setInfo l).params = s.params := rfl
@[simp] theorem State.setInfo_host (s : State) (l : List BlockInfo) : (s.setInfo l).host = s.host := rfl
@[simp] theorem State.setInfo_hostData (s : State) (l : List BlockInfo) : (s.setInfo l).hostData = s.hostData := rfl
@[simp] theorem State.setInfo_freeCtr (s : State) (l : List BlockInfo) : (s.setInfo l).freeCtr = s.freeCtr := rfl

@[simp] theorem State.setInfo_inputBits (s : State) (l : List BlockInfo) : (s.setInfo l).inputBits = s.inputBits := rfl
@[simp] theorem State.setInfo_isBusy (s : State) (l : List BlockInfo) : (s.setInfo l).isBusy = s.isBusy := rfl

/-! ### setCrc -/

@[simp] theorem State.setCrc_run (s : State) (r : Word) : (s.setCrc r).run = s.run := rfl
@[simp] theorem State.setCrc_errKind (s : State) (r : Word) : (s.setCrc r).errKind = s.errKind := rfl
@[simp] theorem State.setCrc_errCode (s : State) (r : Word) : (s.setCrc r).errCode = s.errCode := rfl
@[simp] theorem State.setCrc_inLen (s : State) (r : Word) : (s.setCrc r).inLen = s.inLen := rfl
@[simp] theorem State.setCrc_outLen (s : State) (r : Word) : (s.setCrc r).outLen = s.outLen := rfl
@[simp] theorem State.setCrc_auxLen (s : State) (r : Word) : (s.setCrc r).auxLen = s.auxLen := rfl
@[simp] theorem State.setCrc_cfgInflate (s : State) (r : Word) : (s.setCrc r).cfgInflate = s.cfgInflate := rfl
@[simp] theorem State.setCrc_cfgDeflate (s : State) (r : Word) : (s.setCrc r).cfgDeflate = s.cfgDeflate := rfl
@[simp] theorem State.setCrc_windowSize (s : State) (r : Word) : (s.setCrc r).windowSize = s.windowSize := rfl
@[simp] theorem State.setCrc_minMatch (s : State) (r : Word) : (s.setCrc r).minMatch = s.minMatch := rfl
@[simp] theorem State.setCrc_niceMatch (s : State) (r : Word) : (s.setCrc r).niceMatch = s.niceMatch := rfl
@[simp] theorem State.setCrc_cfgFilter (s : State) (r : Word) : (s.setCrc r).cfgFilter = s.cfgFilter := rfl
@[simp] theorem State.setCrc_width (s : State) (r : Word) : (s.setCrc r).width = s.width := rfl
@[simp] theorem State.setCrc_height (s : State) (r : Word) : (s.setCrc r).height = s.height := rfl
@[simp] theorem State.setCrc_crcReg (s : State) (r : Word) : (s.setCrc r).crcReg = r := rfl
@[simp] theorem State.setCrc_adlerS1 (s : State) (r : Word) : (s.setCrc r).adlerS1 = s.adlerS1 := rfl
@[simp] theorem State.setCrc_adlerS2 (s : State) (r : Word) : (s.setCrc r).adlerS2 = s.adlerS2 := rfl
@[simp] theorem State.setCrc_inBuf (s : State) (r : Word) : (s.setCrc r).inBuf = s.inBuf := rfl
@[simp] theorem State.setCrc_outBuf (s : State) (r : Word) : (s.setCrc r).outBuf = s.outBuf := rfl
@[simp] theorem State.setCrc_auxBuf (s : State) (r : Word) : (s.setCrc r).auxBuf = s.auxBuf := rfl
@[simp] theorem State.setCrc_info (s : State) (r : Word) : (s.setCrc r).info = s.info := rfl
@[simp] theorem State.setCrc_work (s : State) (r : Word) : (s.setCrc r).work = s.work := rfl
@[simp] theorem State.setCrc_params (s : State) (r : Word) : (s.setCrc r).params = s.params := rfl
@[simp] theorem State.setCrc_host (s : State) (r : Word) : (s.setCrc r).host = s.host := rfl
@[simp] theorem State.setCrc_hostData (s : State) (r : Word) : (s.setCrc r).hostData = s.hostData := rfl
@[simp] theorem State.setCrc_freeCtr (s : State) (r : Word) : (s.setCrc r).freeCtr = s.freeCtr := rfl

@[simp] theorem State.setCrc_inputBits (s : State) (r : Word) : (s.setCrc r).inputBits = s.inputBits := rfl
@[simp] theorem State.setCrc_isBusy (s : State) (r : Word) : (s.setCrc r).isBusy = s.isBusy := rfl

/-! ### setAdler -/

@[simp] theorem State.setAdler_run (s : State) (a b : BitVec 16) : (s.setAdler a b).run = s.run := rfl
@[simp] theorem State.setAdler_errKind (s : State) (a b : BitVec 16) : (s.setAdler a b).errKind = s.errKind := rfl
@[simp] theorem State.setAdler_errCode (s : State) (a b : BitVec 16) : (s.setAdler a b).errCode = s.errCode := rfl
@[simp] theorem State.setAdler_inLen (s : State) (a b : BitVec 16) : (s.setAdler a b).inLen = s.inLen := rfl
@[simp] theorem State.setAdler_outLen (s : State) (a b : BitVec 16) : (s.setAdler a b).outLen = s.outLen := rfl
@[simp] theorem State.setAdler_auxLen (s : State) (a b : BitVec 16) : (s.setAdler a b).auxLen = s.auxLen := rfl
@[simp] theorem State.setAdler_cfgInflate (s : State) (a b : BitVec 16) : (s.setAdler a b).cfgInflate = s.cfgInflate := rfl
@[simp] theorem State.setAdler_cfgDeflate (s : State) (a b : BitVec 16) : (s.setAdler a b).cfgDeflate = s.cfgDeflate := rfl
@[simp] theorem State.setAdler_windowSize (s : State) (a b : BitVec 16) : (s.setAdler a b).windowSize = s.windowSize := rfl
@[simp] theorem State.setAdler_minMatch (s : State) (a b : BitVec 16) : (s.setAdler a b).minMatch = s.minMatch := rfl
@[simp] theorem State.setAdler_niceMatch (s : State) (a b : BitVec 16) : (s.setAdler a b).niceMatch = s.niceMatch := rfl
@[simp] theorem State.setAdler_cfgFilter (s : State) (a b : BitVec 16) : (s.setAdler a b).cfgFilter = s.cfgFilter := rfl
@[simp] theorem State.setAdler_width (s : State) (a b : BitVec 16) : (s.setAdler a b).width = s.width := rfl
@[simp] theorem State.setAdler_height (s : State) (a b : BitVec 16) : (s.setAdler a b).height = s.height := rfl
@[simp] theorem State.setAdler_crcReg (s : State) (a b : BitVec 16) : (s.setAdler a b).crcReg = s.crcReg := rfl
@[simp] theorem State.setAdler_adlerS1 (s : State) (a b : BitVec 16) : (s.setAdler a b).adlerS1 = a := rfl
@[simp] theorem State.setAdler_adlerS2 (s : State) (a b : BitVec 16) : (s.setAdler a b).adlerS2 = b := rfl
@[simp] theorem State.setAdler_inBuf (s : State) (a b : BitVec 16) : (s.setAdler a b).inBuf = s.inBuf := rfl
@[simp] theorem State.setAdler_outBuf (s : State) (a b : BitVec 16) : (s.setAdler a b).outBuf = s.outBuf := rfl
@[simp] theorem State.setAdler_auxBuf (s : State) (a b : BitVec 16) : (s.setAdler a b).auxBuf = s.auxBuf := rfl
@[simp] theorem State.setAdler_info (s : State) (a b : BitVec 16) : (s.setAdler a b).info = s.info := rfl
@[simp] theorem State.setAdler_work (s : State) (a b : BitVec 16) : (s.setAdler a b).work = s.work := rfl
@[simp] theorem State.setAdler_params (s : State) (a b : BitVec 16) : (s.setAdler a b).params = s.params := rfl
@[simp] theorem State.setAdler_host (s : State) (a b : BitVec 16) : (s.setAdler a b).host = s.host := rfl
@[simp] theorem State.setAdler_hostData (s : State) (a b : BitVec 16) : (s.setAdler a b).hostData = s.hostData := rfl
@[simp] theorem State.setAdler_freeCtr (s : State) (a b : BitVec 16) : (s.setAdler a b).freeCtr = s.freeCtr := rfl

@[simp] theorem State.setAdler_inputBits (s : State) (a b : BitVec 16) : (s.setAdler a b).inputBits = s.inputBits := rfl
@[simp] theorem State.setAdler_isBusy (s : State) (a b : BitVec 16) : (s.setAdler a b).isBusy = s.isBusy := rfl

/-! ### setHost -/

@[simp] theorem State.setHost_run (s : State) (l : List HostOp) : (s.setHost l).run = s.run := rfl
@[simp] theorem State.setHost_errKind (s : State) (l : List HostOp) : (s.setHost l).errKind = s.errKind := rfl
@[simp] theorem State.setHost_errCode (s : State) (l : List HostOp) : (s.setHost l).errCode = s.errCode := rfl
@[simp] theorem State.setHost_inLen (s : State) (l : List HostOp) : (s.setHost l).inLen = s.inLen := rfl
@[simp] theorem State.setHost_outLen (s : State) (l : List HostOp) : (s.setHost l).outLen = s.outLen := rfl
@[simp] theorem State.setHost_auxLen (s : State) (l : List HostOp) : (s.setHost l).auxLen = s.auxLen := rfl
@[simp] theorem State.setHost_cfgInflate (s : State) (l : List HostOp) : (s.setHost l).cfgInflate = s.cfgInflate := rfl
@[simp] theorem State.setHost_cfgDeflate (s : State) (l : List HostOp) : (s.setHost l).cfgDeflate = s.cfgDeflate := rfl
@[simp] theorem State.setHost_windowSize (s : State) (l : List HostOp) : (s.setHost l).windowSize = s.windowSize := rfl
@[simp] theorem State.setHost_minMatch (s : State) (l : List HostOp) : (s.setHost l).minMatch = s.minMatch := rfl
@[simp] theorem State.setHost_niceMatch (s : State) (l : List HostOp) : (s.setHost l).niceMatch = s.niceMatch := rfl
@[simp] theorem State.setHost_cfgFilter (s : State) (l : List HostOp) : (s.setHost l).cfgFilter = s.cfgFilter := rfl
@[simp] theorem State.setHost_width (s : State) (l : List HostOp) : (s.setHost l).width = s.width := rfl
@[simp] theorem State.setHost_height (s : State) (l : List HostOp) : (s.setHost l).height = s.height := rfl
@[simp] theorem State.setHost_crcReg (s : State) (l : List HostOp) : (s.setHost l).crcReg = s.crcReg := rfl
@[simp] theorem State.setHost_adlerS1 (s : State) (l : List HostOp) : (s.setHost l).adlerS1 = s.adlerS1 := rfl
@[simp] theorem State.setHost_adlerS2 (s : State) (l : List HostOp) : (s.setHost l).adlerS2 = s.adlerS2 := rfl
@[simp] theorem State.setHost_inBuf (s : State) (l : List HostOp) : (s.setHost l).inBuf = s.inBuf := rfl
@[simp] theorem State.setHost_outBuf (s : State) (l : List HostOp) : (s.setHost l).outBuf = s.outBuf := rfl
@[simp] theorem State.setHost_auxBuf (s : State) (l : List HostOp) : (s.setHost l).auxBuf = s.auxBuf := rfl
@[simp] theorem State.setHost_info (s : State) (l : List HostOp) : (s.setHost l).info = s.info := rfl
@[simp] theorem State.setHost_work (s : State) (l : List HostOp) : (s.setHost l).work = s.work := rfl
@[simp] theorem State.setHost_params (s : State) (l : List HostOp) : (s.setHost l).params = s.params := rfl
@[simp] theorem State.setHost_host (s : State) (l : List HostOp) : (s.setHost l).host = l := rfl
@[simp] theorem State.setHost_hostData (s : State) (l : List HostOp) : (s.setHost l).hostData = s.hostData := rfl
@[simp] theorem State.setHost_freeCtr (s : State) (l : List HostOp) : (s.setHost l).freeCtr = s.freeCtr := rfl

@[simp] theorem State.setHost_inputBits (s : State) (l : List HostOp) : (s.setHost l).inputBits = s.inputBits := rfl
@[simp] theorem State.setHost_isBusy (s : State) (l : List HostOp) : (s.setHost l).isBusy = s.isBusy := rfl

/-! ### drawn -/

@[simp] theorem State.drawn_run (s : State) : (s.drawn).run = s.run := rfl
@[simp] theorem State.drawn_errKind (s : State) : (s.drawn).errKind = s.errKind := rfl
@[simp] theorem State.drawn_errCode (s : State) : (s.drawn).errCode = s.errCode := rfl
@[simp] theorem State.drawn_inLen (s : State) : (s.drawn).inLen = s.inLen := rfl
@[simp] theorem State.drawn_outLen (s : State) : (s.drawn).outLen = s.outLen := rfl
@[simp] theorem State.drawn_auxLen (s : State) : (s.drawn).auxLen = s.auxLen := rfl
@[simp] theorem State.drawn_cfgInflate (s : State) : (s.drawn).cfgInflate = s.cfgInflate := rfl
@[simp] theorem State.drawn_cfgDeflate (s : State) : (s.drawn).cfgDeflate = s.cfgDeflate := rfl
@[simp] theorem State.drawn_windowSize (s : State) : (s.drawn).windowSize = s.windowSize := rfl
@[simp] theorem State.drawn_minMatch (s : State) : (s.drawn).minMatch = s.minMatch := rfl
@[simp] theorem State.drawn_niceMatch (s : State) : (s.drawn).niceMatch = s.niceMatch := rfl
@[simp] theorem State.drawn_cfgFilter (s : State) : (s.drawn).cfgFilter = s.cfgFilter := rfl
@[simp] theorem State.drawn_width (s : State) : (s.drawn).width = s.width := rfl
@[simp] theorem State.drawn_height (s : State) : (s.drawn).height = s.height := rfl
@[simp] theorem State.drawn_crcReg (s : State) : (s.drawn).crcReg = s.crcReg := rfl
@[simp] theorem State.drawn_adlerS1 (s : State) : (s.drawn).adlerS1 = s.adlerS1 := rfl
@[simp] theorem State.drawn_adlerS2 (s : State) : (s.drawn).adlerS2 = s.adlerS2 := rfl
@[simp] theorem State.drawn_inBuf (s : State) : (s.drawn).inBuf = s.inBuf := rfl
@[simp] theorem State.drawn_outBuf (s : State) : (s.drawn).outBuf = s.outBuf := rfl
@[simp] theorem State.drawn_auxBuf (s : State) : (s.drawn).auxBuf = s.auxBuf := rfl
@[simp] theorem State.drawn_info (s : State) : (s.drawn).info = s.info := rfl
@[simp] theorem State.drawn_work (s : State) : (s.drawn).work = s.work := rfl
@[simp] theorem State.drawn_params (s : State) : (s.drawn).params = s.params := rfl
@[simp] theorem State.drawn_host (s : State) : (s.drawn).host = s.host := rfl
@[simp] theorem State.drawn_hostData (s : State) : (s.drawn).hostData = s.hostData := rfl
@[simp] theorem State.drawn_freeCtr (s : State) : (s.drawn).freeCtr = s.freeCtr + 1 := rfl

@[simp] theorem State.drawn_inputBits (s : State) : (s.drawn).inputBits = s.inputBits := rfl
@[simp] theorem State.drawn_isBusy (s : State) : (s.drawn).isBusy = s.isBusy := rfl

/-! ### setReader -/

@[simp] theorem State.setReader_run (s : State) (r : Reader) : (s.setReader r).run = s.run := rfl
@[simp] theorem State.setReader_errKind (s : State) (r : Reader) : (s.setReader r).errKind = s.errKind := rfl
@[simp] theorem State.setReader_errCode (s : State) (r : Reader) : (s.setReader r).errCode = s.errCode := rfl
@[simp] theorem State.setReader_inLen (s : State) (r : Reader) : (s.setReader r).inLen = s.inLen := rfl
@[simp] theorem State.setReader_outLen (s : State) (r : Reader) : (s.setReader r).outLen = s.outLen := rfl
@[simp] theorem State.setReader_auxLen (s : State) (r : Reader) : (s.setReader r).auxLen = s.auxLen := rfl
@[simp] theorem State.setReader_cfgInflate (s : State) (r : Reader) : (s.setReader r).cfgInflate = s.cfgInflate := rfl
@[simp] theorem State.setReader_cfgDeflate (s : State) (r : Reader) : (s.setReader r).cfgDeflate = s.cfgDeflate := rfl
@[simp] theorem State.setReader_windowSize (s : State) (r : Reader) : (s.setReader r).windowSize = s.windowSize := rfl
@[simp] theorem State.setReader_minMatch (s : State) (r : Reader) : (s.setReader r).minMatch = s.minMatch := rfl
@[simp] theorem State.setReader_niceMatch (s : State) (r : Reader) : (s.setReader r).niceMatch = s.niceMatch := rfl
@[simp] theorem State.setReader_cfgFilter (s : State) (r : Reader) : (s.setReader r).cfgFilter = s.cfgFilter := rfl
@[simp] theorem State.setReader_width (s : State) (r : Reader) : (s.setReader r).width = s.width := rfl
@[simp] theorem State.setReader_height (s : State) (r : Reader) : (s.setReader r).height = s.height := rfl
@[simp] theorem State.setReader_crcReg (s : State) (r : Reader) : (s.setReader r).crcReg = s.crcReg := rfl
@[simp] theorem State.setReader_adlerS1 (s : State) (r : Reader) : (s.setReader r).adlerS1 = s.adlerS1 := rfl
@[simp] theorem State.setReader_adlerS2 (s : State) (r : Reader) : (s.setReader r).adlerS2 = s.adlerS2 := rfl
@[simp] theorem State.setReader_inBuf (s : State) (r : Reader) : (s.setReader r).inBuf = s.inBuf := rfl
@[simp] theorem State.setReader_outBuf (s : State) (r : Reader) : (s.setReader r).outBuf = s.outBuf := rfl
@[simp] theorem State.setReader_auxBuf (s : State) (r : Reader) : (s.setReader r).auxBuf = s.auxBuf := rfl
@[simp] theorem State.setReader_info (s : State) (r : Reader) : (s.setReader r).info = s.info := rfl
@[simp] theorem State.setReader_work (s : State) (r : Reader) : (s.setReader r).work = { s.work with rd := r } := rfl
@[simp] theorem State.setReader_params (s : State) (r : Reader) : (s.setReader r).params = s.params := rfl
@[simp] theorem State.setReader_host (s : State) (r : Reader) : (s.setReader r).host = s.host := rfl
@[simp] theorem State.setReader_hostData (s : State) (r : Reader) : (s.setReader r).hostData = s.hostData := rfl
@[simp] theorem State.setReader_freeCtr (s : State) (r : Reader) : (s.setReader r).freeCtr = s.freeCtr := rfl

@[simp] theorem State.setReader_inputBits (s : State) (r : Reader) : (s.setReader r).inputBits = 8 * r.size := rfl
@[simp] theorem State.setReader_isBusy (s : State) (r : Reader) : (s.setReader r).isBusy = s.isBusy := rfl

/-! ### setRegs -/

@[simp] theorem State.setRegs_run (s : State) (r : Regs) : (s.setRegs r).run = s.run := rfl
@[simp] theorem State.setRegs_errKind (s : State) (r : Regs) : (s.setRegs r).errKind = s.errKind := rfl
@[simp] theorem State.setRegs_errCode (s : State) (r : Regs) : (s.setRegs r).errCode = s.errCode := rfl
@[simp] theorem State.setRegs_inLen (s : State) (r : Regs) : (s.setRegs r).inLen = s.inLen := rfl
@[simp] theorem State.setRegs_outLen (s : State) (r : Regs) : (s.setRegs r).outLen = s.outLen := rfl
@[simp] theorem State.setRegs_auxLen (s : State) (r : Regs) : (s.setRegs r).auxLen = s.auxLen := rfl
@[simp] theorem State.setRegs_cfgInflate (s : State) (r : Regs) : (s.setRegs r).cfgInflate = s.cfgInflate := rfl
@[simp] theorem State.setRegs_cfgDeflate (s : State) (r : Regs) : (s.setRegs r).cfgDeflate = s.cfgDeflate := rfl
@[simp] theorem State.setRegs_windowSize (s : State) (r : Regs) : (s.setRegs r).windowSize = s.windowSize := rfl
@[simp] theorem State.setRegs_minMatch (s : State) (r : Regs) : (s.setRegs r).minMatch = s.minMatch := rfl
@[simp] theorem State.setRegs_niceMatch (s : State) (r : Regs) : (s.setRegs r).niceMatch = s.niceMatch := rfl
@[simp] theorem State.setRegs_cfgFilter (s : State) (r : Regs) : (s.setRegs r).cfgFilter = s.cfgFilter := rfl
@[simp] theorem State.setRegs_width (s : State) (r : Regs) : (s.setRegs r).width = s.width := rfl
@[simp] theorem State.setRegs_height (s : State) (r : Regs) : (s.setRegs r).height = s.height := rfl
@[simp] theorem State.setRegs_crcReg (s : State) (r : Regs) : (s.setRegs r).crcReg = s.crcReg := rfl
@[simp] theorem State.setRegs_adlerS1 (s : State) (r : Regs) : (s.setRegs r).adlerS1 = s.adlerS1 := rfl
@[simp] theorem State.setRegs_adlerS2 (s : State) (r : Regs) : (s.setRegs r).adlerS2 = s.adlerS2 := rfl
@[simp] theorem State.setRegs_inBuf (s : State) (r : Regs) : (s.setRegs r).inBuf = s.inBuf := rfl
@[simp] theorem State.setRegs_outBuf (s : State) (r : Regs) : (s.setRegs r).outBuf = s.outBuf := rfl
@[simp] theorem State.setRegs_auxBuf (s : State) (r : Regs) : (s.setRegs r).auxBuf = s.auxBuf := rfl
@[simp] theorem State.setRegs_info (s : State) (r : Regs) : (s.setRegs r).info = s.info := rfl
@[simp] theorem State.setRegs_work (s : State) (r : Regs) : (s.setRegs r).work = { s.work with regs := r } := rfl
@[simp] theorem State.setRegs_params (s : State) (r : Regs) : (s.setRegs r).params = s.params := rfl
@[simp] theorem State.setRegs_host (s : State) (r : Regs) : (s.setRegs r).host = s.host := rfl
@[simp] theorem State.setRegs_hostData (s : State) (r : Regs) : (s.setRegs r).hostData = s.hostData := rfl
@[simp] theorem State.setRegs_freeCtr (s : State) (r : Regs) : (s.setRegs r).freeCtr = s.freeCtr := rfl

@[simp] theorem State.setRegs_inputBits (s : State) (r : Regs) : (s.setRegs r).inputBits = s.inputBits := rfl
@[simp] theorem State.setRegs_isBusy (s : State) (r : Regs) : (s.setRegs r).isBusy = s.isBusy := rfl

/-! ### setTabs -/

@[simp] theorem State.setTabs_run (s : State) (r : Tables) : (s.setTabs r).run = s.run := rfl
@[simp] theorem State.setTabs_errKind (s : State) (r : Tables) : (s.setTabs r).errKind = s.errKind := rfl
@[simp] theorem State.setTabs_errCode (s : State) (r : Tables) : (s.setTabs r).errCode = s.errCode := rfl
@[simp] theorem State.setTabs_inLen (s : State) (r : Tables) : (s.setTabs r).inLen = s.inLen := rfl
@[simp] theorem State.setTabs_outLen (s : State) (r : Tables) : (s.setTabs r).outLen = s.outLen := rfl
@[simp] theorem State.setTabs_auxLen (s : State) (r : Tables) : (s.setTabs r).auxLen = s.auxLen := rfl
@[simp] theorem State.setTabs_cfgInflate (s : State) (r : Tables) : (s.setTabs r).cfgInflate = s.cfgInflate := rfl
@[simp] theorem State.setTabs_cfgDeflate (s : State) (r : Tables) : (s.setTabs r).cfgDeflate = s.cfgDeflate := rfl
@[simp] theorem State.setTabs_windowSize (s : State) (r : Tables) : (s.setTabs r).windowSize = s.windowSize := rfl
@[simp] theorem State.setTabs_minMatch (s : State) (r : Tables) : (s.setTabs r).minMatch = s.minMatch := rfl
@[simp] theorem State.setTabs_niceMatch (s : State) (r : Tables) : (s.setTabs r).niceMatch = s.niceMatch := rfl
@[simp] theorem State.setTabs_cfgFilter (s : State) (r : Tables) : (s.setTabs r).cfgFilter = s.cfgFilter := rfl
@[simp] theorem State.setTabs_width (s : State) (r : Tables) : (s.setTabs r).width = s.width := rfl
@[simp] theorem State.setTabs_height (s : State) (r : Tables) : (s.setTabs r).height = s.height := rfl
@[simp] theorem State.setTabs_crcReg (s : State) (r : Tables) : (s.setTabs r).crcReg = s.crcReg := rfl
@[simp] theorem State.setTabs_adlerS1 (s : State) (r : Tables) : (s.setTabs r).adlerS1 = s.adlerS1 := rfl
@[simp] theorem State.setTabs_adlerS2 (s : State) (r : Tables) : (s.setTabs r).adlerS2 = s.adlerS2 := rfl
@[simp] theorem State.setTabs_inBuf (s : State) (r : Tables) : (s.setTabs r).inBuf = s.inBuf := rfl
@[simp] theorem State.setTabs_outBuf (s : State) (r : Tables) : (s.setTabs r).outBuf = s.outBuf := rfl
@[simp] theorem State.setTabs_auxBuf (s : State) (r : Tables) : (s.setTabs r).auxBuf = s.auxBuf := rfl
@[simp] theorem State.setTabs_info (s : State) (r : Tables) : (s.setTabs r).info = s.info := rfl
@[simp] theorem State.setTabs_work (s : State) (r : Tables) : (s.setTabs r).work = { s.work with tabs := r } := rfl
@[simp] theorem State.setTabs_params (s : State) (r : Tables) : (s.setTabs r).params = s.params := rfl
@[simp] theorem State.setTabs_host (s : State) (r : Tables) : (s.setTabs r).host = s.host := rfl
@[simp] theorem State.setTabs_hostData (s : State) (r : Tables) : (s.setTabs r).hostData = s.hostData := rfl
@[simp] theorem State.setTabs_freeCtr (s : State) (r : Tables) : (s.setTabs r).freeCtr = s.freeCtr := rfl

@[simp] theorem State.setTabs_inputBits (s : State) (r : Tables) : (s.setTabs r).inputBits = s.inputBits := rfl
@[simp] theorem State.setTabs_isBusy (s : State) (r : Tables) : (s.setTabs r).isBusy = s.isBusy := rfl

/-! ### setEnc -/

@[simp] theorem State.setEnc_run (s : State) (r : Encoder) : (s.setEnc r).run = s.run := rfl
@[simp] theorem State.setEnc_errKind (s : State) (r : Encoder) : (s.setEnc r).errKind = s.errKind := rfl
@[simp] theorem State.setEnc_errCode (s : State) (r : Encoder) : (s.setEnc r).errCode = s.errCode := rfl
@[simp] theorem State.setEnc_inLen (s : State) (r : Encoder) : (s.setEnc r).inLen = s.inLen := rfl
@[simp] theorem State.setEnc_outLen (s : State) (r : Encoder) : (s.setEnc r).outLen = s.outLen := rfl
@[simp] theorem State.setEnc_auxLen (s : State) (r : Encoder) : (s.setEnc r).auxLen = s.auxLen := rfl
@[simp] theorem State.setEnc_cfgInflate (s : State) (r : Encoder) : (s.setEnc r).cfgInflate = s.cfgInflate := rfl
@[simp] theorem State.setEnc_cfgDeflate (s : State) (r : Encoder) : (s.setEnc r).cfgDeflate = s.cfgDeflate := rfl
@[simp] theorem State.setEnc_windowSize (s : State) (r : Encoder) : (s.setEnc r).windowSize = s.windowSize := rfl
@[simp] theorem State.setEnc_minMatch (s : State) (r : Encoder) : (s.setEnc r).minMatch = s.minMatch := rfl
@[simp] theorem State.setEnc_niceMatch (s : State) (r : Encoder) : (s.setEnc r).niceMatch = s.niceMatch := rfl
@[simp] theorem State.setEnc_cfgFilter (s : State) (r : Encoder) : (s.setEnc r).cfgFilter = s.cfgFilter := rfl
@[simp] theorem State.setEnc_width (s : State) (r : Encoder) : (s.setEnc r).width = s.width := rfl
@[simp] theorem State.setEnc_height (s : State) (r : Encoder) : (s.setEnc r).height = s.height := rfl
@[simp] theorem State.setEnc_crcReg (s : State) (r : Encoder) : (s.setEnc r).crcReg = s.crcReg := rfl
@[simp] theorem State.setEnc_adlerS1 (s : State) (r : Encoder) : (s.setEnc r).adlerS1 = s.adlerS1 := rfl
@[simp] theorem State.setEnc_adlerS2 (s : State) (r : Encoder) : (s.setEnc r).adlerS2 = s.adlerS2 := rfl
@[simp] theorem State.setEnc_inBuf (s : State) (r : Encoder) : (s.setEnc r).inBuf = s.inBuf := rfl
@[simp] theorem State.setEnc_outBuf (s : State) (r : Encoder) : (s.setEnc r).outBuf = s.outBuf := rfl
@[simp] theorem State.setEnc_auxBuf (s : State) (r : Encoder) : (s.setEnc r).auxBuf = s.auxBuf := rfl
@[simp] theorem State.setEnc_info (s : State) (r : Encoder) : (s.setEnc r).info = s.info := rfl
@[simp] theorem State.setEnc_work (s : State) (r : Encoder) : (s.setEnc r).work = { s.work with enc := r } := rfl
@[simp] theorem State.setEnc_params (s : State) (r : Encoder) : (s.setEnc r).params = s.params := rfl
@[simp] theorem State.setEnc_host (s : State) (r : Encoder) : (s.setEnc r).host = s.host := rfl
@[simp] theorem State.setEnc_hostData (s : State) (r : Encoder) : (s.setEnc r).hostData = s.hostData := rfl
@[simp] theorem State.setEnc_freeCtr (s : State) (r : Encoder) : (s.setEnc r).freeCtr = s.freeCtr := rfl

@[simp] theorem State.setEnc_inputBits (s : State) (r : Encoder) : (s.setEnc r).inputBits = s.inputBits := rfl
@[simp] theorem State.setEnc_isBusy (s : State) (r : Encoder) : (s.setEnc r).isBusy = s.isBusy := rfl

/-! ### setLine -/

@[simp] theorem State.setLine_run (s : State) (r : LineState) : (s.setLine r).run = s.run := rfl
@[simp] theorem State.setLine_errKind (s : State) (r : LineState) : (s.setLine r).errKind = s.errKind := rfl
@[simp] theorem State.setLine_errCode (s : State) (r : LineState) : (s.setLine r).errCode = s.errCode := rfl
@[simp] theorem State.setLine_inLen (s : State) (r : LineState) : (s.setLine r).inLen = s.inLen := rfl
@[simp] theorem State.setLine_outLen (s : State) (r : LineState) : (s.setLine r).outLen = s.outLen := rfl
@[simp] theorem State.setLine_auxLen (s : State) (r : LineState) : (s.setLine r).auxLen = s.auxLen := rfl
@[simp] theorem State.setLine_cfgInflate (s : State) (r : LineState) : (s.setLine r).cfgInflate = s.cfgInflate := rfl
@[simp] theorem State.setLine_cfgDeflate (s : State) (r : LineState) : (s.setLine r).cfgDeflate = s.cfgDeflate := rfl
@[simp] theorem State.setLine_windowSize (s : State) (r : LineState) : (s.setLine r).windowSize = s.windowSize := rfl
@[simp] theorem State.setLine_minMatch (s : State) (r : LineState) : (s.setLine r).minMatch = s.minMatch := rfl
@[simp] theorem State.setLine_niceMatch (s : State) (r : LineState) : (s.setLine r).niceMatch = s.niceMatch := rfl
@[simp] theorem State.setLine_cfgFilter (s : State) (r : LineState) : (s.setLine r).cfgFilter = s.cfgFilter := rfl
@[simp] theorem State.setLine_width (s : State) (r : LineState) : (s.setLine r).width = s.width := rfl
@[simp] theorem State.setLine_height (s : State) (r : LineState) : (s.setLine r).height = s.height := rfl
@[simp] theorem State.setLine_crcReg (s : State) (r : LineState) : (s.setLine r).crcReg = s.crcReg := rfl
@[simp] theorem State.setLine_adlerS1 (s : State) (r : LineState) : (s.setLine r).adlerS1 = s.adlerS1 := rfl
@[simp] theorem State.setLine_adlerS2 (s : State) (r : LineState) : (s.setLine r).adlerS2 = s.adlerS2 := rfl
@[simp] theorem State.setLine_inBuf (s : State) (r : LineState) : (s.setLine r).inBuf = s.inBuf := rfl
@[simp] theorem State.setLine_outBuf (s : State) (r : LineState) : (s.setLine r).outBuf = s.outBuf := rfl
@[simp] theorem State.setLine_auxBuf (s : State) (r : LineState) : (s.setLine r).auxBuf = s.auxBuf := rfl
@[simp] theorem State.setLine_info (s : State) (r : LineState) : (s.setLine r).info = s.info := rfl
@[simp] theorem State.setLine_work (s : State) (r : LineState) : (s.setLine r).work = { s.work with line := r } := rfl
@[simp] theorem State.setLine_params (s : State) (r : LineState) : (s.setLine r).params = s.params := rfl
@[simp] theorem State.setLine_host (s : State) (r : LineState) : (s.setLine r).host = s.host := rfl
@[simp] theorem State.setLine_hostData (s : State) (r : LineState) : (s.setLine r).hostData = s.hostData := rfl
@[simp] theorem State.setLine_freeCtr (s : State) (r : LineState) : (s.setLine r).freeCtr = s.freeCtr := rfl

@[simp] theorem State.setLine_inputBits (s : State) (r : LineState) : (s.setLine r).inputBits = s.inputBits := rfl
@[simp] theorem State.setLine_isBusy (s : State) (r : LineState) : (s.setLine r).isBusy = s.isBusy := rfl

/-! ### setInsp -/

@[simp] theorem State.setInsp_run (s : State) (r : Inspect) : (s.setInsp r).run = s.run := rfl
@[simp] theorem State.setInsp_errKind (s : State) (r : Inspect) : (s.setInsp r).errKind = s.errKind := rfl
@[simp] theorem State.setInsp_errCode (s : State) (r : Inspect) : (s.setInsp r).errCode = s.errCode := rfl
@[simp] theorem State.setInsp_inLen (s : State) (r : Inspect) : (s.setInsp r).inLen = s.inLen := rfl
@[simp] theorem State.setInsp_outLen (s : State) (r : Inspect) : (s.setInsp r).outLen = s.outLen := rfl
@[simp] theorem State.setInsp_auxLen (s : State) (r : Inspect) : (s.setInsp r).auxLen = s.auxLen := rfl
@[simp] theorem State.setInsp_cfgInflate (s : State) (r : Inspect) : (s.setInsp r).cfgInflate = s.cfgInflate := rfl
@[simp] theorem State.setInsp_cfgDeflate (s : State) (r : Inspect) : (s.setInsp r).cfgDeflate = s.cfgDeflate := rfl
@[simp] theorem State.setInsp_windowSize (s : State) (r : Inspect) : (s.setInsp r).windowSize = s.windowSize := rfl
@[simp] theorem State.setInsp_minMatch (s : State) (r : Inspect) : (s.setInsp r).minMatch = s.minMatch := rfl
@[simp] theorem State.setInsp_niceMatch (s : State) (r : Inspect) : (s.setInsp r).niceMatch = s.niceMatch := rfl
@[simp] theorem State.setInsp_cfgFilter (s : State) (r : Inspect) : (s.setInsp r).cfgFilter = s.cfgFilter := rfl
@[simp] theorem State.setInsp_width (s : State) (r : Inspect) : (s.setInsp r).width = s.width := rfl
@[simp] theorem State.setInsp_height (s : State) (r : Inspect) : (s.setInsp r).height = s.height := rfl
@[simp] theorem State.setInsp_crcReg (s : State) (r : Inspect) : (s.setInsp r).crcReg = s.crcReg := rfl
@[simp] theorem State.setInsp_adlerS1 (s : State) (r : Inspect) : (s.setInsp r).adlerS1 = s.adlerS1 := rfl
@[simp] theorem State.setInsp_adlerS2 (s : State) (r : Inspect) : (s.setInsp r).adlerS2 = s.adlerS2 := rfl
@[simp] theorem State.setInsp_inBuf (s : State) (r : Inspect) : (s.setInsp r).inBuf = s.inBuf := rfl
@[simp] theorem State.setInsp_outBuf (s : State) (r : Inspect) : (s.setInsp r).outBuf = s.outBuf := rfl
@[simp] theorem State.setInsp_auxBuf (s : State) (r : Inspect) : (s.setInsp r).auxBuf = s.auxBuf := rfl
@[simp] theorem State.setInsp_info (s : State) (r : Inspect) : (s.setInsp r).info = s.info := rfl
@[simp] theorem State.setInsp_work (s : State) (r : Inspect) : (s.setInsp r).work = { s.work with insp := r } := rfl
@[simp] theorem State.setInsp_params (s : State) (r : Inspect) : (s.setInsp r).params = s.params := rfl
@[simp] theorem State.setInsp_host (s : State) (r : Inspect) : (s.setInsp r).host = s.host := rfl
@[simp] theorem State.setInsp_hostData (s : State) (r : Inspect) : (s.setInsp r).hostData = s.hostData := rfl
@[simp] theorem State.setInsp_freeCtr (s : State) (r : Inspect) : (s.setInsp r).freeCtr = s.freeCtr := rfl

@[simp] theorem State.setInsp_inputBits (s : State) (r : Inspect) : (s.setInsp r).inputBits = s.inputBits := rfl
@[simp] theorem State.setInsp_isBusy (s : State) (r : Inspect) : (s.setInsp r).isBusy = s.isBusy := rfl

/-! ### setFraming -/

@[simp] theorem State.setFraming_run (s : State) (r : Framing) : (s.setFraming r).run = s.run := rfl
@[simp] theorem State.setFraming_errKind (s : State) (r : Framing) : (s.setFraming r).errKind = s.errKind := rfl
@[simp] theorem State.setFraming_errCode (s : State) (r : Framing) : (s.setFraming r).errCode = s.errCode := rfl
@[simp] theorem State.setFraming_inLen (s : State) (r : Framing) : (s.setFraming r).inLen = s.inLen := rfl
@[simp] theorem State.setFraming_outLen (s : State) (r : Framing) : (s.setFraming r).outLen = s.outLen := rfl
@[simp] theorem State.setFraming_auxLen (s : State) (r : Framing) : (s.setFraming r).auxLen = s.auxLen := rfl
@[simp] theorem State.setFraming_cfgInflate (s : State) (r : Framing) : (s.setFraming r).cfgInflate = s.cfgInflate := rfl
@[simp] theorem State.setFraming_cfgDeflate (s : State) (r : Framing) : (s.setFraming r).cfgDeflate = s.cfgDeflate := rfl
@[simp] theorem State.setFraming_windowSize (s : State) (r : Framing) : (s.setFraming r).windowSize = s.windowSize := rfl
@[simp] theorem State.setFraming_minMatch (s : State) (r : Framing) : (s.setFraming r).minMatch = s.minMatch := rfl
@[simp] theorem State.setFraming_niceMatch (s : State) (r : Framing) : (s.setFraming r).niceMatch = s.niceMatch := rfl
@[simp] theorem State.setFraming_cfgFilter (s : State) (r : Framing) : (s.setFraming r).cfgFilter = s.cfgFilter := rfl
@[simp] theorem State.setFraming_width (s : State) (r : Framing) : (s.setFraming r).width = s.width := rfl
@[simp] theorem State.setFraming_height (s : State) (r : Framing) : (s.setFraming r).height = s.height := rfl
@[simp] theorem State.setFraming_crcReg (s : State) (r : Framing) : (s.setFraming r).crcReg = s.crcReg := rfl
@[simp] theorem State.setFraming_adlerS1 (s : State) (r : Framing) : (s.setFraming r).adlerS1 = s.adlerS1 := rfl
@[simp] theorem State.setFraming_adlerS2 (s : State) (r : Framing) : (s.setFraming r).adlerS2 = s.adlerS2 := rfl
@[simp] theorem State.setFraming_inBuf (s : State) (r : Framing) : (s.setFraming r).inBuf = s.inBuf := rfl
@[simp] theorem State.setFraming_outBuf (s : State) (r : Framing) : (s.setFraming r).outBuf = s.outBuf := rfl
@[simp] theorem State.setFraming_auxBuf (s : State) (r : Framing) : (s.setFraming r).auxBuf = s.auxBuf := rfl
@[simp] theorem State.setFraming_info (s : State) (r : Framing) : (s.setFraming r).info = s.info := rfl
@[simp] theorem State.setFraming_work (s : State) (r : Framing) : (s.setFraming r).work = { s.work with framing := r } := rfl
@[simp] theorem State.setFraming_params (s : State) (r : Framing) : (s.setFraming r).params = s.params := rfl
@[simp] theorem State.setFraming_host (s : State) (r : Framing) : (s.setFraming r).host = s.host := rfl
@[simp] theorem State.setFraming_hostData (s : State) (r : Framing) : (s.setFraming r).hostData = s.hostData := rfl
@[simp] theorem State.setFraming_freeCtr (s : State) (r : Framing) : (s.setFraming r).freeCtr = s.freeCtr := rfl

@[simp] theorem State.setFraming_inputBits (s : State) (r : Framing) : (s.setFraming r).inputBits = s.inputBits := rfl
@[simp] theorem State.setFraming_isBusy (s : State) (r : Framing) : (s.setFraming r).isBusy = s.isBusy := rfl

/-! ### setBitpos -/

@[simp] theorem State.setBitpos_run (s : State) (n : Nat) : (s.setBitpos n).run = s.run := rfl
@[simp] theorem State.setBitpos_errKind (s : State) (n : Nat) : (s.setBitpos n).errKind = s.errKind := rfl
@[simp] theorem State.setBitpos_errCode (s : State) (n : Nat) : (s.setBitpos n).errCode = s.errCode := rfl
@[simp] theorem State.setBitpos_inLen (s : State) (n : Nat) : (s.setBitpos n).inLen = s.inLen := rfl
@[simp] theorem State.setBitpos_outLen (s : State) (n : Nat) : (s.setBitpos n).outLen = s.outLen := rfl
@[simp] theorem State.setBitpos_auxLen (s : State) (n : Nat) : (s.setBitpos n).auxLen = s.auxLen := rfl
@[simp] theorem State.setBitpos_cfgInflate (s : State) (n : Nat) : (s.setBitpos n).cfgInflate = s.cfgInflate := rfl
@[simp] theorem State.setBitpos_cfgDeflate (s : State) (n : Nat) : (s.setBitpos n).cfgDeflate = s.cfgDeflate := rfl
@[simp] theorem State.setBitpos_windowSize (s : State) (n : Nat) : (s.setBitpos n).windowSize = s.windowSize := rfl
@[simp] theorem State.setBitpos_minMatch (s : State) (n : Nat) : (s.setBitpos n).minMatch = s.minMatch := rfl
@[simp] theorem State.setBitpos_niceMatch (s : State) (n : Nat) : (s.setBitpos n).niceMatch = s.niceMatch := rfl
@[simp] theorem State.setBitpos_cfgFilter (s : State) (n : Nat) : (s.setBitpos n).cfgFilter = s.cfgFilter := rfl
@[simp] theorem State.setBitpos_width (s : State) (n : Nat) : (s.setBitpos n).width = s.width := rfl
@[simp] theorem State.setBitpos_height (s : State) (n : Nat) : (s.setBitpos n).height = s.height := rfl
@[simp] theorem State.setBitpos_crcReg (s : State) (n : Nat) : (s.setBitpos n).crcReg = s.crcReg := rfl
@[simp] theorem State.setBitpos_adlerS1 (s : State) (n : Nat) : (s.setBitpos n).adlerS1 = s.adlerS1 := rfl
@[simp] theorem State.setBitpos_adlerS2 (s : State) (n : Nat) : (s.setBitpos n).adlerS2 = s.adlerS2 := rfl
@[simp] theorem State.setBitpos_inBuf (s : State) (n : Nat) : (s.setBitpos n).inBuf = s.inBuf := rfl
@[simp] theorem State.setBitpos_outBuf (s : State) (n : Nat) : (s.setBitpos n).outBuf = s.outBuf := rfl
@[simp] theorem State.setBitpos_auxBuf (s : State) (n : Nat) : (s.setBitpos n).auxBuf = s.auxBuf := rfl
@[simp] theorem State.setBitpos_info (s : State) (n : Nat) : (s.setBitpos n).info = s.info := rfl
@[simp] theorem State.setBitpos_work (s : State) (n : Nat) : (s.setBitpos n).work = { s.work with rd := { s.work.rd with bitpos := n } } := rfl
@[simp] theorem State.setBitpos_params (s : State) (n : Nat) : (s.setBitpos n).params = s.params := rfl
@[simp] theorem State.setBitpos_host (s : State) (n : Nat) : (s.setBitpos n).host = s.host := rfl
@[simp] theorem State.setBitpos_hostData (s : State) (n : Nat) : (s.setBitpos n).hostData = s.hostData := rfl
@[simp] theorem State.setBitpos_freeCtr (s : State) (n : Nat) : (s.setBitpos n).freeCtr = s.freeCtr := rfl

@[simp] theorem State.setBitpos_inputBits (s : State) (n : Nat) : (s.setBitpos n).inputBits = s.inputBits := rfl
@[simp] theorem State.setBitpos_isBusy (s : State) (n : Nat) : (s.setBitpos n).isBusy = s.isBusy := rfl

/-! ### Command life cycle -/

@[simp] theorem raiseError_run (k : ErrKind) (s : State) : (raiseError k s).run = .error := rfl
@[simp] theorem raiseError_errKind (k : ErrKind) (s : State) : (raiseError k s).errKind = some k := rfl
@[simp] theorem raiseError_errCode (k : ErrKind) (s : State) : (raiseError k s).errCode = errcodeOf k := rfl
@[simp] theorem raiseError_inLen (k : ErrKind) (s : State) : (raiseError k s).inLen = s.inLen := rfl
@[simp] theorem raiseError_outLen (k : ErrKind) (s : State) : (raiseError k s).outLen = 0#31 := rfl
@[simp] theorem raiseError_auxLen (k : ErrKind) (s : State) : (raiseError k s).auxLen = s.auxLen := rfl
@[simp] theorem raiseError_cfgInflate (k : ErrKind) (s : State) : (raiseError k s).cfgInflate = s.cfgInflate := rfl
@[simp] theorem raiseError_cfgDeflate (k : ErrKind) (s : State) : (raiseError k s).cfgDeflate = s.cfgDeflate := rfl
@[simp] theorem raiseError_windowSize (k : ErrKind) (s : State) : (raiseError k s).windowSize = s.windowSize := rfl
@[simp] theorem raiseError_minMatch (k : ErrKind) (s : State) : (raiseError k s).minMatch = s.minMatch := rfl
@[simp] theorem raiseError_niceMatch (k : ErrKind) (s : State) : (raiseError k s).niceMatch = s.niceMatch := rfl
@[simp] theorem raiseError_cfgFilter (k : ErrKind) (s : State) : (raiseError k s).cfgFilter = s.cfgFilter := rfl
@[simp] theorem raiseError_width (k : ErrKind) (s : State) : (raiseError k s).width = s.width := rfl
@[simp] theorem raiseError_height (k : ErrKind) (s : State) : (raiseError k s).height = s.height := rfl
@[simp] theorem raiseError_crcReg (k : ErrKind) (s : State) : (raiseError k s).crcReg = s.crcReg := rfl
@[simp] theorem raiseError_adlerS1 (k : ErrKind) (s : State) : (raiseError k s).adlerS1 = s.adlerS1 := rfl
@[simp] theorem raiseError_adlerS2 (k : ErrKind) (s : State) : (raiseError k s).adlerS2 = s.adlerS2 := rfl
@[simp] theorem raiseError_inBuf (k : ErrKind) (s : State) : (raiseError k s).inBuf = s.inBuf := rfl
@[simp] theorem raiseError_outBuf (k : ErrKind) (s : State) : (raiseError k s).outBuf = [] := rfl
@[simp] theorem raiseError_auxBuf (k : ErrKind) (s : State) : (raiseError k s).auxBuf = s.auxBuf := rfl
@[simp] theorem raiseError_info (k : ErrKind) (s : State) : (raiseError k s).info = [] := rfl
@[simp] theorem raiseError_work (k : ErrKind) (s : State) : (raiseError k s).work = s.work := rfl
@[simp] theorem raiseError_params (k : ErrKind) (s : State) : (raiseError k s).params = s.params := rfl
@[simp] theorem raiseError_host (k : ErrKind) (s : State) : (raiseError k s).host = s.host := rfl
@[simp] theorem raiseError_hostData (k : ErrKind) (s : State) : (raiseError k s).hostData = s.hostData := rfl
@[simp] theorem raiseError_freeCtr (k : ErrKind) (s : State) : (raiseError k s).freeCtr = s.freeCtr := rfl

@[simp] theorem complete_run (s : State) : (complete s).run = .done := rfl
@[simp] theorem complete_errKind (s : State) : (complete s).errKind = none := rfl
@[simp] theorem complete_errCode (s : State) : (complete s).errCode = 0#32 := rfl
@[simp] theorem complete_inLen (s : State) : (complete s).inLen = s.inLen := rfl
@[simp] theorem complete_outLen (s : State) : (complete s).outLen = s.outLen := rfl
@[simp] theorem complete_auxLen (s : State) : (complete s).auxLen = s.auxLen := rfl
@[simp] theorem complete_cfgInflate (s : State) : (complete s).cfgInflate = s.cfgInflate := rfl
@[simp] theorem complete_cfgDeflate (s : State) : (complete s).cfgDeflate = s.cfgDeflate := rfl
@[simp] theorem complete_windowSize (s : State) : (complete s).windowSize = s.windowSize := rfl
@[simp] theorem complete_minMatch (s : State) : (complete s).minMatch = s.minMatch := rfl
@[simp] theorem complete_niceMatch (s : State) : (complete s).niceMatch = s.niceMatch := rfl
@[simp] theorem complete_cfgFilter (s : State) : (complete s).cfgFilter = s.cfgFilter := rfl
@[simp] theorem complete_width (s : State) : (complete s).width = s.width := rfl
@[simp] theorem complete_height (s : State) : (complete s).height = s.height := rfl
@[simp] theorem complete_crcReg (s : State) : (complete s).crcReg = s.crcReg := rfl
@[simp] theorem complete_adlerS1 (s : State) : (complete s).adlerS1 = s.adlerS1 := rfl
@[simp] theorem complete_adlerS2 (s : State) : (complete s).adlerS2 = s.adlerS2 := rfl
@[simp] theorem complete_inBuf (s : State) : (complete s).inBuf = s.inBuf := rfl
@[simp] theorem complete_outBuf (s : State) : (complete s).outBuf = s.outBuf := rfl
@[simp] theorem complete_auxBuf (s : State) : (complete s).auxBuf = s.auxBuf := rfl
@[simp] theorem complete_info (s : State) : (complete s).info = s.info := rfl
@[simp] theorem complete_work (s : State) : (complete s).work = s.work := rfl
@[simp] theorem complete_params (s : State) : (complete s).params = s.params := rfl
@[simp] theorem complete_host (s : State) : (complete s).host = s.host := rfl
@[simp] theorem complete_hostData (s : State) : (complete s).hostData = s.hostData := rfl
@[simp] theorem complete_freeCtr (s : State) : (complete s).freeCtr = s.freeCtr := rfl

@[simp] theorem startCommand_run (s : State) : (startCommand s).run = s.run := rfl
@[simp] theorem startCommand_errKind (s : State) : (startCommand s).errKind = s.errKind := rfl
@[simp] theorem startCommand_errCode (s : State) : (startCommand s).errCode = s.errCode := rfl
@[simp] theorem startCommand_inLen (s : State) : (startCommand s).inLen = s.inLen := rfl
@[simp] theorem startCommand_outLen (s : State) : (startCommand s).outLen = 0#31 := rfl
@[simp] theorem startCommand_auxLen (s : State) : (startCommand s).auxLen = s.auxLen := rfl
@[simp] theorem startCommand_cfgInflate (s : State) : (startCommand s).cfgInflate = s.cfgInflate := rfl
@[simp] theorem startCommand_cfgDeflate (s : State) : (startCommand s).cfgDeflate = s.cfgDeflate := rfl
@[simp] theorem startCommand_windowSize (s : State) : (startCommand s).windowSize = s.windowSize := rfl
@[simp] theorem startCommand_minMatch (s : State) : (startCommand s).minMatch = s.minMatch := rfl
@[simp] theorem startCommand_niceMatch (s : State) : (startCommand s).niceMatch = s.niceMatch := rfl
@[simp] theorem startCommand_cfgFilter (s : State) : (startCommand s).cfgFilter = s.cfgFilter := rfl
@[simp] theorem startCommand_width (s : State) : (startCommand s).width = s.width := rfl
@[simp] theorem startCommand_height (s : State) : (startCommand s).height = s.height := rfl
@[simp] theorem startCommand_crcReg (s : State) : (startCommand s).crcReg = s.crcReg := rfl
@[simp] theorem startCommand_adlerS1 (s : State) : (startCommand s).adlerS1 = s.adlerS1 := rfl
@[simp] theorem startCommand_adlerS2 (s : State) : (startCommand s).adlerS2 = s.adlerS2 := rfl
@[simp] theorem startCommand_inBuf (s : State) : (startCommand s).inBuf = s.inBuf := rfl
@[simp] theorem startCommand_outBuf (s : State) : (startCommand s).outBuf = [] := rfl
@[simp] theorem startCommand_auxBuf (s : State) : (startCommand s).auxBuf = s.auxBuf := rfl
@[simp] theorem startCommand_info (s : State) : (startCommand s).info = [] := rfl
@[simp] theorem startCommand_params (s : State) : (startCommand s).params = s.params := rfl
@[simp] theorem startCommand_host (s : State) : (startCommand s).host = s.host := rfl
@[simp] theorem startCommand_hostData (s : State) : (startCommand s).hostData = s.hostData := rfl
@[simp] theorem startCommand_freeCtr (s : State) : (startCommand s).freeCtr = s.freeCtr + 1 := rfl

@[simp] theorem hostReset_run (s : State) : (hostReset s).run = State.reset.run := rfl
@[simp] theorem hostReset_errKind (s : State) : (hostReset s).errKind = State.reset.errKind := rfl
@[simp] theorem hostReset_errCode (s : State) : (hostReset s).errCode = State.reset.errCode := rfl
@[simp] theorem hostReset_inLen (s : State) : (hostReset s).inLen = State.reset.inLen := rfl
@[simp] theorem hostReset_outLen (s : State) : (hostReset s).outLen = State.reset.outLen := rfl
@[simp] theorem hostReset_auxLen (s : State) : (hostReset s).auxLen = State.reset.auxLen := rfl
@[simp] theorem hostReset_cfgInflate (s : State) : (hostReset s).cfgInflate = State.reset.cfgInflate := rfl
@[simp] theorem hostReset_cfgDeflate (s : State) : (hostReset s).cfgDeflate = State.reset.cfgDeflate := rfl
@[simp] theorem hostReset_windowSize (s : State) : (hostReset s).windowSize = State.reset.windowSize := rfl
@[simp] theorem hostReset_minMatch (s : State) : (hostReset s).minMatch = State.reset.minMatch := rfl
@[simp] theorem hostReset_niceMatch (s : State) : (hostReset s).niceMatch = State.reset.niceMatch := rfl
@[simp] theorem hostReset_cfgFilter (s : State) : (hostReset s).cfgFilter = State.reset.cfgFilter := rfl
@[simp] theorem hostReset_width (s : State) : (hostReset s).width = State.reset.width := rfl
@[simp] theorem hostReset_height (s : State) : (hostReset s).height = State.reset.height := rfl
@[simp] theorem hostReset_crcReg (s : State) : (hostReset s).crcReg = State.reset.crcReg := rfl
@[simp] theorem hostReset_adlerS1 (s : State) : (hostReset s).adlerS1 = State.reset.adlerS1 := rfl
@[simp] theorem hostReset_adlerS2 (s : State) : (hostReset s).adlerS2 = State.reset.adlerS2 := rfl
@[simp] theorem hostReset_inBuf (s : State) : (hostReset s).inBuf = State.reset.inBuf := rfl
@[simp] theorem hostReset_outBuf (s : State) : (hostReset s).outBuf = State.reset.outBuf := rfl
@[simp] theorem hostReset_auxBuf (s : State) : (hostReset s).auxBuf = State.reset.auxBuf := rfl
@[simp] theorem hostReset_info (s : State) : (hostReset s).info = State.reset.info := rfl
@[simp] theorem hostReset_work (s : State) : (hostReset s).work = State.reset.work := rfl
@[simp] theorem hostReset_params (s : State) : (hostReset s).params = s.params := rfl
@[simp] theorem hostReset_host (s : State) : (hostReset s).host = s.host := rfl
@[simp] theorem hostReset_hostData (s : State) : (hostReset s).hostData = State.reset.hostData := rfl
@[simp] theorem hostReset_freeCtr (s : State) : (hostReset s).freeCtr = s.freeCtr := rfl

@[simp] theorem startCommand_rd (s : State) : (startCommand s).work.rd = { bitpos := 0, base := 0, size := 0 } := rfl

@[simp] theorem startCommand_s1 (s : State) : (startCommand s).work.regs.s1 = 1#32 := rfl

@[simp] theorem startCommand_s2 (s : State) : (startCommand s).work.regs.s2 = 0#32 := rfl

@[simp] theorem startCommand_head (s : State) : (startCommand s).work.enc.head = [] := rfl

@[simp] theorem startCommand_prev (s : State) : (startCommand s).work.enc.prev = [] := rfl

/-! ### Updates that undo or repeat each other -/

/-- Putting the cursor where it stands changes nothing. -/
@[simp] theorem State.setBitpos_self (s : State) : s.setBitpos s.work.rd.bitpos = s := rfl

/-- Only the last position of the cursor counts. -/
@[simp] theorem State.setBitpos_setBitpos (s : State) (m n : Nat) : (s.setBitpos m).setBitpos n = s.setBitpos n := rfl

/-- The host's actions are not part of what the engine works on. -/
theorem State.setHost_self (s : State) : s.setHost s.host = s := rfl

/-- A state is BUSY exactly when some element comes next. -/
theorem State.isBusy_iff (s : State) : s.isBusy = true ↔ ∃ p, s.run = .busy p := by
  unfold State.isBusy
  cases s.run <;> simp

@[simp] theorem State.setRun_busy_isBusy (s : State) (p : Phase) : (s.setRun (.busy p)).isBusy = true := rfl

end Sys2Proof.Machine
end

