-- ==== Sys2Proof/Laws/Ops.lean ====
section
/-! SUPPORT. What each shared operation can do, said once: sequencing, the bit reader, reading IN and OUT, appending, the
life of a command. -/

namespace Sys2Proof.Machine

/-! ### Sequencing -/

@[simp] theorem Res.bind_ok {α β : Type} (a : α) (s : State) (f : α → State → Res β) : (Res.ok a s).bind f = f a s := rfl

@[simp] theorem Res.bind_raise {α β : Type} (k : ErrKind) (s : State) (f : α → State → Res β) :
    (Res.raise k s : Res α).bind f = .raise k s := rfl

@[simp] theorem Res.bind_refuse {α β : Type} (r : Refusal) (f : α → State → Res β) :
    (Res.refuse r : Res α).bind f = .refuse r := rfl

/-- A sequence that ends well went well in both halves. -/
theorem Res.bind_eq_ok {α β : Type} {x : Res α} {f : α → State → Res β} {b : β} {t : State} :
    x.bind f = .ok b t ↔ ∃ a u, x = .ok a u ∧ f a u = .ok b t := by
  cases x <;> simp [Res.bind]

/-- A sequence raises what its first half raises, or its second half after the first went well. -/
theorem Res.bind_eq_raise {α β : Type} {x : Res α} {f : α → State → Res β} {k : ErrKind} {t : State} :
    x.bind f = .raise k t ↔ x = .raise k t ∨ ∃ a u, x = .ok a u ∧ f a u = .raise k t := by
  cases x <;> simp [Res.bind]

/-- A sequence refuses what its first half refuses, or its second half after the first went well. -/
theorem Res.bind_eq_refuse {α β : Type} {x : Res α} {f : α → State → Res β} {r : Refusal} :
    x.bind f = .refuse r ↔ x = .refuse r ∨ ∃ a u, x = .ok a u ∧ f a u = .refuse r := by
  cases x <;> simp [Res.bind]

@[simp] theorem Res.finish_ok (a : Unit) (s : State) : (Res.ok a s).finish = .next s := rfl

@[simp] theorem Res.finish_raise (k : ErrKind) (s : State) :
    (Res.raise k s : Res Unit).finish = .next (raiseError k s) := rfl

@[simp] theorem Res.finish_refuse (r : Refusal) : (Res.refuse r : Res Unit).finish = .refused r := rfl

/-- An operation's outcome is a next state in two ways: it went well, or it raised. -/
theorem Res.finish_eq_next {x : Res Unit} {t : State} :
    x.finish = .next t ↔ x = .ok () t ∨ ∃ k u, x = .raise k u ∧ t = raiseError k u := by
  cases x with
  | ok a s => simp [Res.finish]
  | raise k s => simp [Res.finish, eq_comm]
  | refuse r => simp [Res.finish]

/-! ### The bit reader -/

/-- A field of `n` bits is below `2 ^ n`. -/
theorem streamField_lt {s : State} {k n v : Nat} (h : streamField s k n = some v) : v < 2 ^ n := by
  induction n generalizing k v with
  | zero => simp only [streamField, Option.some.injEq] at h; simp [← h]
  | succ m ih =>
    simp only [streamField] at h
    split at h
    · rename_i b w hb hw
      have := ih hw
      simp only [Option.some.injEq] at h
      have hb1 : b.toNat ≤ 1 := Bool.toNat_le b
      rw [Nat.pow_succ]; omega
    · cases h

/-- The bits of a field are the stream's bits, first bit least significant. -/
theorem streamField_testBit {s : State} {k n v : Nat} (h : streamField s k n = some v) (i : Nat) (hi : i < n) :
    streamBit s (k + i) = some (v.testBit i) := by
  induction n generalizing k v i with
  | zero => omega
  | succ m ih =>
    simp only [streamField] at h
    split at h
    · rename_i b w hb hw
      simp only [Option.some.injEq] at h
      cases i with
      | zero =>
        rw [Nat.add_zero, hb, ← h]
        cases b <;> simp [Nat.testBit_zero]
      | succ j =>
        have := ih hw j (by omega)
        rw [show k + (j + 1) = k + 1 + j by omega, this, ← h, Nat.testBit_succ]
        congr 2
        cases b
        all_goals simp
        all_goals omega
    · cases h

/-- A field is there exactly when each of its bits is. -/
theorem streamField_isSome_iff (s : State) (k n : Nat) :
    (streamField s k n).isSome = true ↔ ∀ i, i < n → (streamBit s (k + i)).isSome = true := by
  constructor
  · intro h i hi
    obtain ⟨v, hv⟩ := Option.isSome_iff_exists.mp h
    simp [streamField_testBit hv i hi]
  · intro h
    induction n generalizing k with
    | zero => rfl
    | succ m ih =>
      obtain ⟨b, hb⟩ := Option.isSome_iff_exists.mp (h 0 (by omega))
      obtain ⟨v, hv⟩ := Option.isSome_iff_exists.mp (ih (k + 1) fun i hi => by
        rw [show k + 1 + i = k + (i + 1) by omega]; exact h (i + 1) (by omega))
      rw [Nat.add_zero] at hb
      simp [streamField, hb, hv]

/-- Reading a field that is there. -/
theorem readBits_of_nextField {n v : Nat} {s : State} (h : s.nextField n v) :
    readBits n s = .ok v (s.setBitpos (s.work.rd.bitpos + n)) := by
  have h1 : ¬ s.inputBits < s.work.rd.bitpos + n := by have := h.1; omega
  simp [readBits, h1, h.2]

/-- Reading past the end. -/
theorem readBits_of_short {n : Nat} {s : State} (h : s.inputBits < s.work.rd.bitpos + n) :
    readBits n s = .raise .unexpectedEnd s := by
  simp [readBits, h]

/-- Everything `read_bits` can do when it goes well: the cursor moves, inside the input, and nothing else. -/
theorem readBits_eq_ok {n v : Nat} {s t : State} (h : readBits n s = .ok v t) :
    s.nextField n v ∧ t = s.setBitpos (s.work.rd.bitpos + n) := by
  unfold readBits at h
  split at h
  · cases h
  · rename_i h1
    split at h
    · rename_i w hw
      cases h
      exact ⟨⟨by omega, hw⟩, rfl⟩
    · cases h

/-- The only error of `read_bits`. -/
theorem readBits_eq_raise {n : Nat} {k : ErrKind} {s t : State} (h : readBits n s = .raise k t) :
    k = .unexpectedEnd ∧ t = s ∧ s.inputBits < s.work.rd.bitpos + n := by
  unfold readBits at h
  split at h
  · rename_i h1; cases h; exact ⟨rfl, rfl, h1⟩
  · split at h <;> cases h

/-- `read_bits` refuses only where a bit of the input was never written. -/
theorem readBits_eq_refuse {n : Nat} {r : Refusal} {s : State} (h : readBits n s = .refuse r) :
    r = .unwrittenByte ∧ s.work.rd.bitpos + n ≤ s.inputBits ∧ streamField s s.work.rd.bitpos n = none := by
  unfold readBits at h
  split at h
  · cases h
  · rename_i h1
    split at h
    · cases h
    · rename_i h2; cases h; exact ⟨rfl, by omega, h2⟩

/-- Everything the symbol loop of `decode_symbol` can do when it goes well: it consumes between one and `fuel` bits. -/
theorem decodeFrom_eq_ok {T : HuffTable} {fuel n c v : Nat} {s t : State} (h : decodeFrom T fuel n c s = .ok v t) :
    ∃ m, 1 ≤ m ∧ m ≤ fuel ∧ s.work.rd.bitpos + m ≤ s.inputBits ∧ t = s.setBitpos (s.work.rd.bitpos + m) ∧
      ∃ d, T.find (n + m) d = some v := by
  induction fuel generalizing n c s with
  | zero => simp [decodeFrom] at h
  | succ k ih =>
    simp only [decodeFrom] at h
    obtain ⟨b, u, hb, hu⟩ := Res.bind_eq_ok.mp h
    obtain ⟨hf, rfl⟩ := readBits_eq_ok hb
    have h1 := hf.1
    split at hu
    · rename_i sym hs
      cases hu
      exact ⟨1, by omega, by omega, h1, rfl, _, hs⟩
    · obtain ⟨m, hm1, hm2, hm3, ht, hd⟩ := ih hu
      simp only [State.setBitpos_work, State.setBitpos_inputBits] at hm3
      refine ⟨m + 1, by omega, by omega, by omega, ?_, ?_⟩
      · rw [ht]; simp only [State.setBitpos_work, State.setBitpos_setBitpos]; congr 1; omega
      · rw [show n + (m + 1) = n + 1 + m by omega]; exact hd

/-- Everything the symbol loop raises. -/
theorem decodeFrom_eq_raise {T : HuffTable} {fuel n c : Nat} {k : ErrKind} {s t : State}
    (h : decodeFrom T fuel n c s = .raise k t) :
    (k = .invalidSymbol ∨ k = .unexpectedEnd) ∧ ∃ p, t = s.setBitpos p := by
  induction fuel generalizing n c s with
  | zero => simp only [decodeFrom, Res.raise.injEq] at h; exact ⟨.inl h.1.symm, s.work.rd.bitpos, h.2.symm⟩
  | succ f ih =>
    simp only [decodeFrom] at h
    rcases Res.bind_eq_raise.mp h with h1 | ⟨b, u, hb, hu⟩
    · obtain ⟨h2, h3, -⟩ := readBits_eq_raise h1
      exact ⟨.inr h2, s.work.rd.bitpos, h3⟩
    · obtain ⟨-, rfl⟩ := readBits_eq_ok hb
      split at hu
      · cases hu
      · obtain ⟨h4, p, rfl⟩ := ih hu
        exact ⟨h4, p, rfl⟩

/-! ### Reading IN -/

/-- Everything `readIn` can do when it goes well. -/
theorem readIn_eq_ok {k : ErrKind} {i : Nat} {b : Byte} {s t : State} (h : readIn k i s = .ok b t) :
    t = s ∧ i < s.inLen.toNat ∧ s.inBuf.read i = some b := by
  unfold readIn at h
  split at h
  · cases h
  · split at h
    · rename_i h1 _ h2; cases h; exact ⟨rfl, by omega, h2⟩
    · cases h

/-- Reading a byte of IN that is there. -/
theorem readIn_of_read {k : ErrKind} {i : Nat} {b : Byte} {s : State} (hi : i < s.inLen.toNat)
    (hb : s.inBuf.read i = some b) : readIn k i s = .ok b s := by
  have h1 : ¬ s.inLen.toNat ≤ i := by omega
  simp [readIn, h1, hb]

/-- Everything `readInBytes` can do when it goes well. -/
theorem readInBytes_eq_ok {k : ErrKind} {i n : Nat} {bs : List Byte} {s t : State}
    (h : readInBytes k i n s = .ok bs t) : t = s ∧ i + n ≤ s.inLen.toNat ∧ s.inBuf.bytes i n = some bs := by
  unfold readInBytes at h
  split at h
  · cases h
  · split at h
    · rename_i h1 _ h2; cases h; exact ⟨rfl, by omega, h2⟩
    · cases h

/-- Reading bytes of IN that are there. -/
theorem readInBytes_of_bytes {k : ErrKind} {i n : Nat} {bs : List Byte} {s : State} (hi : i + n ≤ s.inLen.toNat)
    (hb : s.inBuf.bytes i n = some bs) : readInBytes k i n s = .ok bs s := by
  have h1 : ¬ s.inLen.toNat < i + n := by omega
  simp [readInBytes, h1, hb]

/-- Reading all of IN. -/
theorem readAllIn_of_inputIs {data : List Byte} {s : State} (h : s.inputIs data) : readAllIn s = .ok data s := by
  unfold readAllIn
  rw [show s.inBuf.bytes 0 s.inLen.toNat = some data from h]

/-! ### OUT -/

/-- Appending a byte while OUT has room. -/
theorem appendOut_of_room {b : Byte} {s : State} (h : s.outLen.toNat < s.params.outCap.toNat) :
    appendOut b s = .ok () (s.setOut (s.outBuf.write s.outLen.toNat b) (s.outLen + 1#31)) := by
  have h1 : ¬ s.params.outCap ≤ s.outLen := by rw [BitVec.le_def]; omega
  simp [appendOut, h1]

/-- Appending a byte to a full OUT. -/
theorem appendOut_of_full {b : Byte} {s : State} (h : s.params.outCap.toNat ≤ s.outLen.toNat) :
    appendOut b s = .raise .outOfCapacity s := by
  have h1 : s.params.outCap ≤ s.outLen := by rw [BitVec.le_def]; exact h
  simp [appendOut, h1]

/-- Below the capacity the next length does not wrap. -/
theorem outLen_succ {s : State} (h : s.outLen.toNat < s.params.outCap.toNat) :
    (s.outLen + 1#31).toNat = s.outLen.toNat + 1 := by
  have := s.params.outCap.isLt
  rw [BitVec.toNat_add]
  simp
  omega

/-- Appending bytes while OUT has room for them: only OUT and OUT_LEN change, and they change as `appended` says. -/
theorem appendAll_of_room {bs : List Byte} {s : State} (h : s.outLen.toNat + bs.length ≤ s.params.outCap.toNat) :
    ∃ t, appendAll bs s = .ok () t ∧ t = s.setOut t.outBuf t.outLen ∧ s.appended t bs := by
  induction bs generalizing s with
  | nil => exact ⟨s, rfl, rfl, by simp [State.appended]⟩
  | cons b rest ih =>
    simp only [List.length_cons] at h
    have h0 : s.outLen.toNat < s.params.outCap.toNat := by omega
    have hl := outLen_succ h0
    obtain ⟨t, ht, hs, ha, hb, hc⟩ := ih (s := s.setOut (s.outBuf.write s.outLen.toNat b) (s.outLen + 1#31))
      (by simp only [State.setOut_outLen, State.setOut_params, hl]; omega)
    refine ⟨t, by simp [appendAll, appendOut_of_room h0, ht], by rw [hs]; rfl, ?_, ?_, ?_⟩
    · rw [ha, State.setOut_outLen, hl, List.length_cons]; omega
    · intro i hi
      cases i with
      | zero =>
        rw [hc (s.outLen.toNat + 0) (by rw [State.setOut_outLen, hl]; omega)]
        simp
      | succ j =>
        have := hb j (by simpa using hi)
        rw [State.setOut_outLen, hl] at this
        rw [show s.outLen.toNat + (j + 1) = s.outLen.toNat + 1 + j by omega, this]
        simp
    · intro a hcase
      simp only [List.length_cons] at hcase
      have := hc a (by rw [State.setOut_outLen, hl]; omega)
      rw [this, State.setOut_outBuf, Memory.read_write_other _ _ _ _ (by omega)]

/-- Without room for all of them, appending some bytes raises OutOfCapacity; only OUT and OUT_LEN change. -/
theorem appendAll_of_full {bs : List Byte} {s : State} (h : s.params.outCap.toNat < s.outLen.toNat + bs.length)
    (h1 : 1 ≤ bs.length) :
    ∃ t, appendAll bs s = .raise .outOfCapacity t ∧ t = s.setOut t.outBuf t.outLen := by
  induction bs generalizing s with
  | nil => simp at h1
  | cons b rest ih =>
    simp only [List.length_cons] at h
    by_cases h0 : s.outLen.toNat < s.params.outCap.toNat
    · have hl := outLen_succ h0
      obtain ⟨t, ht, hs⟩ := ih (s := s.setOut (s.outBuf.write s.outLen.toNat b) (s.outLen + 1#31))
        (by simp only [State.setOut_outLen, State.setOut_params, hl]; omega)
        (by omega)
      exact ⟨t, by simp [appendAll, appendOut_of_room h0, ht], by rw [hs]; rfl⟩
    · exact ⟨s, by simp [appendAll, appendOut_of_full (by omega : s.params.outCap.toNat ≤ s.outLen.toNat)], rfl⟩

/-- Whatever appending does, it never refuses, its only error is OutOfCapacity, and it touches OUT and OUT_LEN only. -/
theorem appendAll_cases (bs : List Byte) (s : State) :
    (∃ m n, appendAll bs s = .ok () (s.setOut m n)) ∨ ∃ m n, appendAll bs s = .raise .outOfCapacity (s.setOut m n) := by
  induction bs generalizing s with
  | nil => exact .inl ⟨s.outBuf, s.outLen, rfl⟩
  | cons b rest ih =>
    by_cases h : s.params.outCap ≤ s.outLen
    · exact .inr ⟨s.outBuf, s.outLen, by simp [appendAll, appendOut, h, State.setOut]⟩
    · rcases ih (s.setOut (s.outBuf.write s.outLen.toNat b) (s.outLen + 1#31)) with ⟨m, n, hk⟩ | ⟨m, n, hk⟩
      · exact .inl ⟨m, n, by simp only [appendAll, appendOut, h, if_false, Res.bind_ok, hk]; rfl⟩
      · exact .inr ⟨m, n, by simp only [appendAll, appendOut, h, if_false, Res.bind_ok, hk]; rfl⟩

/-! ### The life of a command -/

/-- A CMD write while STATE = BUSY is ignored. -/
theorem onCommand_of_busy {rule : State → Res Unit} {s : State} (h : s.isBusy = true) : onCommand rule s = .next s := by
  simp [onCommand, h]

/-- A CMD write that can be launched runs its rule on the clean state. -/
theorem onCommand_of_canLaunch {rule : State → Res Unit} {s : State} (h : s.canLaunch) :
    onCommand rule s = (rule (startCommand s)).finish := by
  obtain ⟨h1, h2, h3⟩ := h
  have h4 : s.launchOk = true := by
    simp only [State.launchOk, Bool.and_eq_true, decide_eq_true_eq, BitVec.le_def]
    exact ⟨h2, h3⟩
  simp [onCommand, h1, h4]

/-- A CMD write outside the capacities is refused. -/
theorem onCommand_of_beyond {rule : State → Res Unit} {s : State} (h1 : s.isBusy = false)
    (h2 : s.params.inCap.toNat < s.inLen.toNat ∨ s.params.auxCap.toNat < s.auxLen.toNat) :
    onCommand rule s = .refused .launchBeyondCapacity := by
  have h4 : s.launchOk = false := by
    simp only [State.launchOk, Bool.and_eq_false_iff, decide_eq_false_iff_not, BitVec.le_def]
    omega
  simp [onCommand, h1, h4]

/-- What a raise leaves, seen from the state before, when the rule that raised had touched only what a stream element
may touch. -/
theorem raised_of_engineFrame {k : ErrKind} {s u : State}
    (h : u = { s with outLen := u.outLen, outBuf := u.outBuf, info := u.info, work := u.work }) :
    s.raised k (raiseError k u) := by
  unfold State.raised raiseError
  rw [h]

end Sys2Proof.Machine
end

