-- ==== Sys2Proof/Laws/Inflate.lean ====
section
/-! SUPPORT. Laws of the two copies of the INFLATE unit: what a stored block's copy and the match expander leave. -/

namespace Sys2Proof.Machine

/-- The stored copy, with its bytes written and room for them: they are appended, and only OUT and OUT_LEN change. -/
theorem copyStored_of_room {bs : List Byte} {n k : Nat} {s : State}
    (hb : s.inBuf.bytes (s.work.rd.base + k) n = some bs) (hr : s.outLen.toNat + n ≤ s.params.outCap.toNat) :
    ∃ t, copyStored n k s = .ok () t ∧ t = s.setOut t.outBuf t.outLen ∧ s.appended t bs := by
  induction n generalizing bs k s with
  | zero =>
    simp only [Memory.bytes, Option.some.injEq] at hb
    subst hb
    exact ⟨s, rfl, rfl, by simp [State.appended]⟩
  | succ m ih =>
    simp only [Memory.bytes] at hb
    split at hb
    · rename_i b rest hread hrest
      obtain rfl := Option.some.inj hb
      have h0 : s.outLen.toNat < s.params.outCap.toNat := by omega
      have hl := outLen_succ h0
      obtain ⟨t, ht, hs, ha, hb', hc⟩ := ih (bs := rest) (k := k + 1)
        (s := s.setOut (s.outBuf.write s.outLen.toNat b) (s.outLen + 1#31))
        (by simpa [Nat.add_assoc] using hrest)
        (by simp only [State.setOut_outLen, State.setOut_params, hl]; omega)
      refine ⟨t, by simp [copyStored, hread, appendOut_of_room h0, ht], by rw [hs]; rfl, ?_, ?_, ?_⟩
      · rw [ha, State.setOut_outLen, hl, List.length_cons]; omega
      · intro i hi
        cases i with
        | zero =>
          rw [hc (s.outLen.toNat + 0) (by rw [State.setOut_outLen, hl]; omega)]
          simp
        | succ j =>
          have := hb' j (by simpa using hi)
          rw [State.setOut_outLen, hl] at this
          rw [show s.outLen.toNat + (j + 1) = s.outLen.toNat + 1 + j by omega, this]
          simp
      · intro a hcase
        simp only [List.length_cons] at hcase
        rw [hc a (by rw [State.setOut_outLen, hl]; omega), State.setOut_outBuf,
          Memory.read_write_other _ _ _ _ (by omega)]
    · exact absurd hb (by simp)

/-- The match expander, with its source written and room for the copy: each appended byte is the one `dist` before it,
every other byte is as before, and only OUT and OUT_LEN change. -/
theorem copyMatch_of_room {n dist : Nat} {s : State} (h1 : 1 ≤ dist) (h2 : dist ≤ s.outLen.toNat)
    (hw : ∀ a, s.outLen.toNat - dist ≤ a → a < s.outLen.toNat → (s.outBuf.read a).isSome = true)
    (hr : s.outLen.toNat + n ≤ s.params.outCap.toNat) :
    ∃ t, copyMatch n dist s = .ok () t ∧ t = s.setOut t.outBuf t.outLen ∧ t.outLen.toNat = s.outLen.toNat + n ∧
      (∀ a, s.outLen.toNat ≤ a → a < t.outLen.toNat →
        (t.outBuf.read a).isSome = true ∧ t.outBuf.read a = t.outBuf.read (a - dist)) ∧
      ∀ a, a < s.outLen.toNat ∨ t.outLen.toNat ≤ a → t.outBuf.read a = s.outBuf.read a := by
  induction n generalizing s with
  | zero => exact ⟨s, rfl, rfl, rfl, by omega, fun _ _ => rfl⟩
  | succ m ih =>
    obtain ⟨b, hb⟩ := Option.isSome_iff_exists.mp (hw (s.outLen.toNat - dist) (by omega) (by omega))
    have h0 : s.outLen.toNat < s.params.outCap.toNat := by omega
    have hl := outLen_succ h0
    obtain ⟨t, ht, hs, hn, hc, ho⟩ := ih (s := s.setOut (s.outBuf.write s.outLen.toNat b) (s.outLen + 1#31))
      (by rw [State.setOut_outLen, hl]; omega)
      (by
        intro a ha hb'
        rw [State.setOut_outLen, hl] at ha hb'
        by_cases he : a = s.outLen.toNat
        · subst he; simp
        · rw [State.setOut_outBuf, Memory.read_write_other _ _ _ _ he]
          exact hw a (by omega) (by omega))
      (by simp only [State.setOut_outLen, State.setOut_params, hl]; omega)
    simp only [State.setOut_outLen, hl] at hn hc ho
    have hlast : t.outBuf.read s.outLen.toNat = some b := by
      rw [ho _ (by omega), State.setOut_outBuf, Memory.read_write_same]
    refine ⟨t, by simp [copyMatch, readHistory, hb, appendOut_of_room h0, ht], by rw [hs]; rfl, by omega, ?_, ?_⟩
    · intro a ha hb'
      by_cases he : a = s.outLen.toNat
      · subst he
        refine ⟨by simp [hlast], ?_⟩
        rw [hlast, ho _ (by omega), State.setOut_outBuf, Memory.read_write_other _ _ _ _ (by omega), hb]
      · exact hc a (by omega) hb'
    · intro a ha
      rw [ho a (by omega), State.setOut_outBuf, Memory.read_write_other _ _ _ _ (by omega)]

/-- The match expander with its source written and no room for the whole copy raises OutOfCapacity; only OUT and OUT_LEN
change. -/
theorem copyMatch_of_full {n dist : Nat} {s : State} (h1 : 1 ≤ dist) (h2 : dist ≤ s.outLen.toNat)
    (hw : ∀ a, s.outLen.toNat - dist ≤ a → a < s.outLen.toNat → (s.outBuf.read a).isSome = true) (hn : 1 ≤ n)
    (hr : s.params.outCap.toNat < s.outLen.toNat + n) :
    ∃ t, copyMatch n dist s = .raise .outOfCapacity t ∧ t = s.setOut t.outBuf t.outLen := by
  induction n generalizing s with
  | zero => omega
  | succ m ih =>
    obtain ⟨b, hb⟩ := Option.isSome_iff_exists.mp (hw (s.outLen.toNat - dist) (by omega) (by omega))
    by_cases h0 : s.outLen.toNat < s.params.outCap.toNat
    · have hl := outLen_succ h0
      obtain ⟨t, ht, hs⟩ := ih (s := s.setOut (s.outBuf.write s.outLen.toNat b) (s.outLen + 1#31))
        (by rw [State.setOut_outLen, hl]; omega)
        (by
          intro a ha hb'
          rw [State.setOut_outLen, hl] at ha hb'
          by_cases he : a = s.outLen.toNat
          · subst he; simp
          · rw [State.setOut_outBuf, Memory.read_write_other _ _ _ _ he]
            exact hw a (by omega) (by omega))
        (by omega)
        (by simp only [State.setOut_outLen, State.setOut_params, hl]; omega)
      exact ⟨t, by simp [copyMatch, readHistory, hb, appendOut_of_room h0, ht], by rw [hs]; rfl⟩
    · exact ⟨s, by simp [copyMatch, readHistory, hb, appendOut_of_full (by omega : s.params.outCap.toNat ≤ s.outLen.toNat)],
        rfl⟩

/-- The stored copy with its bytes written and no room for all of them raises OutOfCapacity; only OUT and OUT_LEN
change. -/
theorem copyStored_of_full {bs : List Byte} {n k : Nat} {s : State}
    (hb : s.inBuf.bytes (s.work.rd.base + k) n = some bs) (hn : 1 ≤ n)
    (hr : s.params.outCap.toNat < s.outLen.toNat + n) :
    ∃ t, copyStored n k s = .raise .outOfCapacity t ∧ t = s.setOut t.outBuf t.outLen := by
  induction n generalizing bs k s with
  | zero => omega
  | succ m ih =>
    simp only [Memory.bytes] at hb
    split at hb
    · rename_i b rest hread hrest
      by_cases h0 : s.outLen.toNat < s.params.outCap.toNat
      · have hl := outLen_succ h0
        obtain ⟨t, ht, hs⟩ := ih (bs := rest) (k := k + 1)
          (s := s.setOut (s.outBuf.write s.outLen.toNat b) (s.outLen + 1#31))
          (by simpa [Nat.add_assoc] using hrest) (by omega)
          (by simp only [State.setOut_outLen, State.setOut_params, hl]; omega)
        exact ⟨t, by simp [copyStored, hread, appendOut_of_room h0, ht], by rw [hs]; rfl⟩
      · exact ⟨s, by simp [copyStored, hread, appendOut_of_full (by omega : s.params.outCap.toNat ≤ s.outLen.toNat)], rfl⟩
    · exact absurd hb (by simp)

/-- Whatever the match expander does, it touches OUT and OUT_LEN only, and its only error is OutOfCapacity. -/
theorem copyMatch_cases (n dist : Nat) (s : State) :
    (∃ m l, copyMatch n dist s = .ok () (s.setOut m l)) ∨ (∃ m l, copyMatch n dist s = .raise .outOfCapacity (s.setOut m l)) ∨
      copyMatch n dist s = .refuse .unwrittenByte := by
  induction n generalizing s with
  | zero => exact .inl ⟨s.outBuf, s.outLen, rfl⟩
  | succ m ih =>
    cases hb : s.outBuf.read (s.outLen.toNat - dist) with
    | none => exact .inr (.inr (by simp [copyMatch, readHistory, hb]))
    | some b =>
      by_cases h : s.params.outCap ≤ s.outLen
      · exact .inr (.inl ⟨s.outBuf, s.outLen, by simp [copyMatch, readHistory, hb, appendOut, h, State.setOut]⟩)
      · have hstep : copyMatch (m + 1) dist s =
            copyMatch m dist (s.setOut (s.outBuf.write s.outLen.toNat b) (s.outLen + 1#31)) := by
          simp [copyMatch, readHistory, hb, appendOut, h]
        rw [hstep]
        rcases ih (s.setOut (s.outBuf.write s.outLen.toNat b) (s.outLen + 1#31)) with ⟨x, l, hk⟩ | ⟨x, l, hk⟩ | hk
        · exact .inl ⟨x, l, by rw [hk]; rfl⟩
        · exact .inr (.inl ⟨x, l, by rw [hk]; rfl⟩)
        · exact .inr (.inr hk)

/-- Whatever the stored copy does, it touches OUT and OUT_LEN only, and its only error is OutOfCapacity. -/
theorem copyStored_cases (n k : Nat) (s : State) :
    (∃ m l, copyStored n k s = .ok () (s.setOut m l)) ∨ (∃ m l, copyStored n k s = .raise .outOfCapacity (s.setOut m l)) ∨
      copyStored n k s = .refuse .unwrittenByte := by
  induction n generalizing k s with
  | zero => exact .inl ⟨s.outBuf, s.outLen, rfl⟩
  | succ m ih =>
    cases hb : s.inBuf.read (s.work.rd.base + k) with
    | none => exact .inr (.inr (by simp [copyStored, hb]))
    | some b =>
      by_cases h : s.params.outCap ≤ s.outLen
      · exact .inr (.inl ⟨s.outBuf, s.outLen, by simp [copyStored, hb, appendOut, h, State.setOut]⟩)
      · have hstep : copyStored (m + 1) k s =
            copyStored m (k + 1) (s.setOut (s.outBuf.write s.outLen.toNat b) (s.outLen + 1#31)) := by
          simp [copyStored, hb, appendOut, h]
        rw [hstep]
        rcases ih (k + 1) (s.setOut (s.outBuf.write s.outLen.toNat b) (s.outLen + 1#31)) with ⟨x, l, hk⟩ | ⟨x, l, hk⟩ | hk
        · exact .inl ⟨x, l, by rw [hk]; rfl⟩
        · exact .inr (.inl ⟨x, l, by rw [hk]; rfl⟩)
        · exact .inr (.inr hk)

/-- How a block's end goes on. -/
theorem endBlock_goesOn (s : State) : s.goesOn (endBlock s) := by
  unfold State.goesOn endBlock
  refine ⟨fun h => ?_, fun h hf => ?_, fun h hf => ?_⟩
  · split <;> simp_all [State.setRun, State.setInfo]
  · split <;> simp_all [complete]
  · split <;> simp_all [State.setRun, State.setInfo]

end Sys2Proof.Machine
end

