-- ==== Sys2Proof/Laws/Lz.lean ====
section
/-! SUPPORT. Laws of the match finder's chains: they always go from a position to an earlier one. -/

namespace Sys2Proof.Machine

/-- Chains of earlier positions are chains of positions below any later bound. -/
theorem Chains.below_mono {t : Chains} {m n : Nat} (h : t.below m) (hmn : m ≤ n) : t.below n :=
  ⟨fun e he => Nat.lt_of_lt_of_le (h.1 e he) hmn, fun e he => ⟨(h.2 e he).1, Nat.lt_of_lt_of_le (h.2 e he).2 hmn⟩⟩

/-- What a table answers is one of its entries. -/
theorem tableGet_mem {t : List (Nat × Nat)} {k v : Nat} (h : tableGet t k = some v) : (k, v) ∈ t := by
  induction t with
  | nil => simp [tableGet] at h
  | cons e rest ih =>
    obtain ⟨a, b⟩ := e
    simp only [tableGet, List.lookup_cons] at h ih
    split at h
    · obtain rfl := Option.some.inj h
      simp_all
    · exact List.mem_cons_of_mem _ (ih h)

/-- Inserting the next position keeps the chains going back. -/
theorem insertPos_below {c : Choice} {data : List Byte} {p : Nat} {t : Chains} (h : t.below p) :
    (insertPos c data p t).below (p + 1) := by
  obtain ⟨hh, hp⟩ := h
  have hp' : ∀ e ∈ t.prev, e.2 < e.1 ∧ e.1 < p + 1 := fun e he => ⟨(hp e he).1, Nat.lt_succ_of_lt (hp e he).2⟩
  unfold insertPos
  split
  · exact ⟨fun e he => Nat.lt_succ_of_lt (hh e he), hp'⟩
  · refine ⟨?_, ?_⟩
    · intro e he
      rcases List.mem_cons.mp he with rfl | he
      · exact Nat.lt_succ_self p
      · exact Nat.lt_succ_of_lt (hh e (List.mem_filter.mp he).1)
    · dsimp only
      split
      · rename_i q hq
        intro e he
        rcases List.mem_cons.mp he with rfl | he
        · have := hh _ (tableGet_mem hq)
          exact ⟨this, Nat.lt_succ_self p⟩
        · exact hp' e he
      · exact hp'

/-- Inserting the next `n` positions keeps the chains going back. -/
theorem insertRange_below {c : Choice} {data : List Byte} {p n : Nat} {t : Chains} (h : t.below p) :
    (insertRange c data p n t).below (p + n) := by
  induction n generalizing p t with
  | zero => exact h
  | succ k ih => rw [show p + (k + 1) = p + 1 + k by omega]; exact ih (insertPos_below h)

end Sys2Proof.Machine
end

