-- ==== Sys2Proof/Laws/Step.lean ====
section
/-! SUPPORT. What a step can be: the engine's element, nothing, or one action of the host. -/

namespace Sys2Proof.Machine

/-- With a command running, the engine's step is the element's. -/
theorem idleOrEngine_of_busy {p : Phase} {s : State} (h : s.run = .busy p) : idleOrEngine s = engineStep p s := by
  simp [idleOrEngine, h]

/-- With none running, the engine does nothing. -/
theorem idleOrEngine_of_idle {s : State} (h : s.isBusy = false) : idleOrEngine s = .next s := by
  unfold idleOrEngine
  split <;> simp_all [State.isBusy]

/-- Every step is the engine's with the host's list untouched, the end of a poll, or the host's first action. -/
theorem step_cases (s : State) :
    step s = idleOrEngine s ∨ (∃ rest, s.host = .poll :: rest ∧ s.isBusy = false ∧ step s = .next (s.setHost rest)) ∨
      ∃ op rest, s.host = op :: rest ∧ op ≠ .poll ∧ step s = hostStep op (s.setHost rest) := by
  unfold step stepWithHost
  split
  · exact .inl rfl
  · rename_i rest h
    split
    · exact .inl rfl
    · exact .inr (.inl ⟨rest, h, by simpa using ‹¬ s.isBusy = true›, rfl⟩)
  · rename_i op rest hne h
    exact .inr (.inr ⟨op, rest, h, hne, rfl⟩)

/-- The engine's step, by what the fetch answers. -/
theorem engineStep_of_fetch {p : Phase} {s t : State} {v : Nat} {i : Instr} (hv : fetchValue p s = .ok v t)
    (hd : decode p.format v = some i) : engineStep p s = exec i t := by
  simp [engineStep, fetch, Res.bind, hv, hd]

/-- The engine's step when the fetch raises. -/
theorem engineStep_of_raise {p : Phase} {s t : State} {k : ErrKind} (hv : fetchValue p s = .raise k t) :
    engineStep p s = .next (raiseError k t) := by
  simp [engineStep, fetch, Res.bind, hv]

end Sys2Proof.Machine
end

