-- ==== Sys2Proof/Tests/Slice0.lean ====
section
/-! SUPPORT. The model's own tests. Words are written out from the opcode table's bits and from 30_encoding.md, expected
results are the vectors of 95_test_vectors.md or worked from the rule named; each test is one step. The witnesses at the
end show that the hypotheses of the statements can be met. -/

namespace Sys2Proof.Tests

set_option Elab.async false

open Sys2Proof Sys2Proof.Machine

/-! ### Helpers -/

/-- Bytes from numbers. -/
def by8 (l : List Nat) : List Byte := l.map (BitVec.ofNat 8)

/-- IN holds these bytes and BITPOS is `pos`. -/
def reading (pos : Nat) (l : List Nat) : State := (State.reset.withInput (by8 l)).setBitpos pos

/-- OUT holds these bytes. -/
def having (l : List Nat) (s : State) : State := s.setOut (Memory.ofBytes 0 (by8 l)) (BitVec.ofNat 31 l.length)

/-- A view of the next state, none for a fault or a refusal. -/
def seen {α : Type} (o : Host.Outcome State Fault Refusal) (f : State → α) : Option α :=
  match o with
  | .next t => some (f t)
  | .fault _ => none
  | .refused _ => none

/-- STATE, the error kind and OUT after an instruction. -/
def result (i : Instr) (s : State) : Option (RunState × Option ErrKind × List Byte) :=
  seen (exec i s) fun t => (t.run, t.errKind, t.outBuf.map Prod.snd)

/-- Nothing but the error kind of a raise. -/
def raises (i : Instr) (s : State) : Option (RunState × Option ErrKind × BitVec 31) :=
  seen (exec i s) fun t => (t.run, t.errKind, t.outLen)

/-! ### Well-formedness: 0x7802 is not divisible by 31 (vector Z8) -/

theorem test_ill_formed_header_refused : (Instr.zhdr 7#3 0#2 2#5).wellFormed = false := by decide +kernel

theorem test_well_formed_header_accepted : (Instr.zhdr 7#3 0#2 1#5).wellFormed = true := by decide +kernel

/-! ### Decoding: a word for every row -/

theorem test_decode_zhdr : ∀ w ∈ ([(0b0111100000000001, .zhdr 7#3 0#2 1#5), (0b0011100000010001, .zhdr 3#3 0#2 17#5),
    (0b0111100011011010, .zhdr 7#3 3#2 26#5),
    (0b1000100000011100, .zhdrBadCinfo 0b000100000011100#15),
    (0b0111100000100000, .zhdrBadFdict 0b111100000#9 0#5),
    (0b0111011100001001, .zhdrBadCm0xxx 7#3 7#3 0#2 9#5),
    (0b0101111011000001, .zhdrBadCm11xx 5#3 2#2 3#2 1#5),
    (0b0101101110000011, .zhdrBadCm101x 5#3 1#1 2#2 3#5),
    (0b0010100101000100, .zhdrBadCm1001 2#3 1#2 4#5)] : List (Nat × Instr)), decode .zhdr w.1 = some w.2 := by decide +kernel

theorem test_decode_trailer : decode .ztrl 0x05B401E6 = some (.adler32 0x05B401E6#32) ∧ decode .ztrl 0x100000000 = none := by decide +kernel

theorem test_decode_block_header : ∀ w ∈ ([(0b000, .blockStored 0#1), (0b001, .blockStored 1#1), (0b010, .blockFixed 0#1),
    (0b011, .blockFixed 1#1), (0b100, .blockDynamic 0#1), (0b101, .blockDynamic 1#1), (0b110, .blockReserved 0#1),
    (0b111, .blockReserved 1#1)] : List (Nat × Instr)), decode .blk w.1 = some w.2 := by decide +kernel

theorem test_decode_bodies : decode .stored 0 = some .stored ∧ decode .dynhdr 0 = some .dynhdr := by decide +kernel

theorem test_decode_code_length_symbol : ∀ w ∈ ([(0b00000, .clen 0#4), (0b01111, .clen 15#4), (0b10000, .crep),
    (0b10001, .czeroShort), (0b10010, .czeroLong)] : List (Nat × Instr)), decode .clsym w.1 = some w.2 := by decide +kernel

/-- The length rows' nine bits. -/
def lengthWords : List (Nat × Instr) :=
  [(0b100000001, .len257), (0b100000010, .len258), (0b100000011, .len259), (0b100000100, .len260),
   (0b100000101, .len261), (0b100000110, .len262), (0b100000111, .len263), (0b100001000, .len264),
   (0b100001001, .len265), (0b100001010, .len266), (0b100001011, .len267), (0b100001100, .len268),
   (0b100001101, .len269), (0b100001110, .len270), (0b100001111, .len271), (0b100010000, .len272),
   (0b100010001, .len273), (0b100010010, .len274), (0b100010011, .len275), (0b100010100, .len276),
   (0b100010101, .len277), (0b100010110, .len278), (0b100010111, .len279), (0b100011000, .len280),
   (0b100011001, .len281), (0b100011010, .len282), (0b100011011, .len283), (0b100011100, .len284),
   (0b100011101, .len285)]

theorem test_decode_length_symbol : ∀ w ∈ lengthWords, decode .llsym w.1 = some w.2 := by decide +kernel

theorem test_decode_other_symbol : ∀ w ∈ ([(0b001100001, .lit 0x61#8), (0b011111111, .lit 0xFF#8), (0b100000000, .eob),
    (0b100011110, .llIllegal 0#1), (0b100011111, .llIllegal 1#1)] : List (Nat × Instr)),
    decode .llsym w.1 = some w.2 := by decide +kernel

/-- The distance rows' five bits. -/
def distanceWords : List (Nat × Instr) :=
  [(0b00000, .dist0), (0b00001, .dist1), (0b00010, .dist2), (0b00011, .dist3), (0b00100, .dist4), (0b00101, .dist5),
   (0b00110, .dist6), (0b00111, .dist7), (0b01000, .dist8), (0b01001, .dist9),
   (0b01010, .dist10), (0b01011, .dist11), (0b01100, .dist12), (0b01101, .dist13), (0b01110, .dist14),
   (0b01111, .dist15), (0b10000, .dist16), (0b10001, .dist17), (0b10010, .dist18), (0b10011, .dist19),
   (0b10100, .dist20), (0b10101, .dist21), (0b10110, .dist22), (0b10111, .dist23), (0b11000, .dist24),
   (0b11001, .dist25), (0b11010, .dist26), (0b11011, .dist27), (0b11100, .dist28), (0b11101, .dist29),
   (0b11110, .distIllegal 0#1), (0b11111, .distIllegal 1#1)]

theorem test_decode_distance_symbol : ∀ w ∈ distanceWords, decode .dsym w.1 = some w.2 := by decide +kernel

theorem test_decode_filter_byte : ∀ w ∈ ([(0b00000000, .filtNone), (0b00000001, .filtSub), (0b00000010, .filtUp),
    (0b00000011, .filtAverage), (0b00000100, .filtPaeth), (0b00000101, .filtIllegal5or7 0#1),
    (0b00000111, .filtIllegal5or7 1#1), (0b00000110, .filtIllegal6), (0b00001010, .filtIllegal8to15 2#3),
    (0b00011001, .filtIllegal16to31 9#4), (0b00110001, .filtIllegal32to63 17#5),
    (0b01100001, .filtIllegal64to127 33#6), (0b10000001, .filtIllegal128to255 1#7)] : List (Nat × Instr)),
    decode .scanline w.1 = some w.2 := by decide +kernel

theorem test_decode_command : ∀ w ∈ ([(0x00000000, .nop), (0x00000001, .inflate), (0x00000002, .zlibDecompress),
    (0x00000003, .zlibInfo), (0x00000004, .deflate), (0x00000005, .zlibCompress), (0x00000008, .crcInit),
    (0x00000009, .crcUpdate), (0x0000000A, .adlerInit), (0x0000000B, .adlerUpdate), (0x00000010, .filter),
    (0x00000011, .unfilter)] : List (Nat × Instr)), decode .cmdw w.1 = some w.2 := by decide +kernel

/-- Command words with a reserved bit set, each with lower bits set as well. -/
def reservedWords : List (Nat × Instr) :=
  [(0xC0000001, .cmdIllegalBit31 0x40000001#31), (0x60000002, .cmdIllegalBit30 0x20000002#30),
   (0x30000003, .cmdIllegalBit29 0x10000003#29), (0x18000004, .cmdIllegalBit28 0x08000004#28),
   (0x0C000005, .cmdIllegalBit27 0x04000005#27), (0x06000008, .cmdIllegalBit26 0x02000008#26),
   (0x03000009, .cmdIllegalBit25 0x01000009#25), (0x0180000A, .cmdIllegalBit24 0x0080000A#24),
   (0x00C0000B, .cmdIllegalBit23 0x40000B#23), (0x00600010, .cmdIllegalBit22 0x200010#22),
   (0x00300011, .cmdIllegalBit21 0x100011#21), (0x00180012, .cmdIllegalBit20 0x080012#20),
   (0x000C0013, .cmdIllegalBit19 0x40013#19), (0x00060014, .cmdIllegalBit18 0x20014#18),
   (0x00030015, .cmdIllegalBit17 0x10015#17), (0x00018016, .cmdIllegalBit16 0x8016#16),
   (0x0000C017, .cmdIllegalBit15 0x4017#15), (0x00006018, .cmdIllegalBit14 0x2018#14),
   (0x00003019, .cmdIllegalBit13 0x1019#13), (0x0000181A, .cmdIllegalBit12 0x81A#12),
   (0x00000C1B, .cmdIllegalBit11 0x41B#11), (0x0000061C, .cmdIllegalBit10 0x21C#10),
   (0x0000031D, .cmdIllegalBit9 0x11D#9), (0x0000019E, .cmdIllegalBit8 0x9E#8),
   (0x00000007, .cmdIllegal06 1#1), (0x0000000E, .cmdIllegal0C 2#2), (0x00000013, .cmdIllegal12 1#1),
   (0x00000016, .cmdIllegal14 2#2), (0x0000001D, .cmdIllegal18 5#3), (0x00000031, .cmdIllegal20 17#5),
   (0x00000061, .cmdIllegal40 33#6), (0x000000FF, .cmdIllegal80 127#7)]

theorem test_decode_illegal_command : ∀ w ∈ reservedWords, decode .cmdw w.1 = some w.2 := by decide +kernel

theorem test_decode_outside_domains : decode .zhdr 65536 = none ∧ decode .blk 8 = none ∧ decode .clsym 19 = none ∧
    decode .llsym 288 = none ∧ decode .dsym 32 = none ∧ decode .scanline 256 = none ∧ decode .cmdw 0x100000000 = none := by decide +kernel

theorem test_table_word : decodeTableWord 32 0x00000101 = some (.cmdIllegalBit8 1#8) ∧
    decodeTableWord 16 0b100000000 = some .eob ∧ decodeTableWord 16 0x7801 = some (.zhdr 7#3 0#2 1#5) ∧
    decodeTableWord 8 0b11101 = some .dist29 ∧ decodeTableWord 8 0x80 = some (.filtIllegal128to255 0#7) := by decide +kernel

/-! ### One step of every stream element -/

/-- Vector Z2: the body is IN[2..5). -/
theorem test_zhdr_starts_the_body : seen (exec (.zhdr 7#3 0#2 1#5) (reading 0 [0x78, 1, 0x4b, 4, 0, 0, 0x62, 0, 0x62]))
    (fun t => (t.run, t.work.rd)) = some (.busy .blk, { bitpos := 0, base := 2, size := 3 }) := by decide +kernel

/-- Vector Z8. -/
theorem test_zhdr_check_bits : raises (.zhdr 7#3 0#2 2#5) (reading 0 []) = some (.error, some .badZlibHeader, 0#31) := by decide +kernel

/-- Vectors Z9, Z10, Z11: divisible by 31, illegal all the same; and the other rows. -/
theorem test_zhdr_illegal : ∀ i ∈ ([.zhdrBadCinfo 0b000100000011100#15, .zhdrBadFdict 0b111100000#9 0#5,
    .zhdrBadCm0xxx 7#3 7#3 0#2 9#5, .zhdrBadCm11xx 5#3 2#2 3#2 1#5, .zhdrBadCm101x 5#3 1#1 2#2 3#5,
    .zhdrBadCm1001 2#3 1#2 4#5] : List Instr),
    raises i (having [1, 2] (reading 0 [])) = some (.error, some .badZlibHeader, 0#31) := by decide +kernel

/-- Vector A2 and Z6: the trailer of "a", right and wrong by one; ADLER_VALUE keeps its reset value. -/
theorem test_adler32_matches : seen (exec (.adler32 0x00620062#32) (having [0x61] (reading 0 [])))
    (fun t => (t.run, t.errKind, t.outLen, t.adlerValue)) = some (.done, none, 1#31, 1#32) := by decide +kernel

theorem test_adler32_differs : seen (exec (.adler32 0x00620063#32) (having [0x61] (reading 0 [])))
    (fun t => (t.run, t.errKind, t.errCode, t.outLen)) = some (.error, some .badAdler, 58#32, 0#31) := by decide +kernel

theorem test_block_stored : seen (exec (.blockStored 1#1) (reading 3 [1, 0]))
    (fun t => (t.run, t.work.regs.bfinal, t.work.regs.btype)) = some (.busy .stored, 1#1, 0#2) := by decide +kernel

/-- Vectors H8, H11: the fixed code words of 0x61 and 255. -/
theorem test_block_fixed : seen (exec (.blockFixed 0#1) (reading 3 [2, 0]))
    (fun t => ((t.run, t.work.regs.bfinal, t.work.regs.btype),
      [t.work.tabs.ll.code.getD 0x61 0, t.work.tabs.ll.len.getD 0x61 0, t.work.tabs.ll.code.getD 255 0,
        t.work.tabs.d.len.getD 29 0])) = some ((.busy .llsym, 0#1, 1#2), [0b10010001, 8, 0b111111111, 5]) := by decide +kernel

theorem test_block_dynamic : seen (exec (.blockDynamic 1#1) (reading 3 [5, 0]))
    (fun t => (t.run, t.work.regs.bfinal, t.work.regs.btype, t.work.insp.startBit)) =
      some (.busy .dynhdr, 1#1, 2#2, 0) := by decide +kernel

/-- Vector I13. -/
theorem test_block_reserved : raises (.blockReserved 1#1) (having [1] (reading 3 [7])) =
    some (.error, some .invalidBlock, 0#31) := by decide +kernel

/-- Vectors I4, I15c. -/
theorem test_stored_copies : seen (exec .stored (reading 3 [1, 5, 0, 0xfa, 0xff, 0x68, 0x65, 0x6c, 0x6c, 0x6f]))
    (fun t => (t.outBuf.map Prod.snd, t.work.rd.bitpos, t.work.regs.len, t.work.regs.nlen)) =
      some (by8 [0x68, 0x65, 0x6c, 0x6c, 0x6f], 80, 5#16, 0xFFFA#16) := by decide +kernel

theorem test_stored_mismatch_first : raises .stored (reading 3 [1, 5, 0, 0xfa, 0xf0, 0x68]) =
    some (.error, some .storedMismatch, 0#31) := by decide +kernel

/-- Vectors I11, I22: the code-length code 18: 0, 1: 10; the over-subscribed one. -/
theorem test_dynhdr : seen (exec .dynhdr (reading 3 [5, 0xc0, 0x81, 0, 0, 0, 0, 0, 0x20, 0x7f, 0xeb, 2]))
    (fun t => ((t.run, t.work.regs.hlit, t.work.regs.hdist, t.work.regs.hclen, t.work.rd.bitpos),
      [t.work.tabs.cl.len.getD 18 0, t.work.tabs.cl.code.getD 18 7, t.work.tabs.cl.len.getD 1 0,
        t.work.tabs.cl.code.getD 1 0])) = some ((.busy .clsym, 257#9, 1#6, 18#5, 71), [1, 0, 2, 0b10]) := by decide +kernel

theorem test_dynhdr_over_subscribed : seen (exec .dynhdr (reading 3 [5, 0, 0x92, 0]))
    (fun t => (t.errKind, t.work.rd.bitpos)) = some (some .invalidTree, 29) := by decide +kernel

/-- A code-length sequence of HLIT 257 and HDIST 1 in progress. -/
def producing (lens : List Nat) (s : State) : State :=
  (s.setRegs { s.work.regs with hlit := 257#9, hdist := 1#6, cli := BitVec.ofNat 9 lens.length }).setTabs
    { s.work.tabs with lens := lens }

theorem test_clen : seen (exec (.clen 5#4) (producing [3] (reading 0 [])))
    (fun t => (t.run, t.work.tabs.lens, t.work.regs.cli)) = some (.busy .clsym, [3, 5], 2#9) := by decide +kernel

/-- Vector I11 at its last code length: the code of 256 and of distance 0 is the one bit 0. -/
theorem test_clen_builds_tables : seen
    (exec (.clen 1#4) (producing (List.replicate 256 0 ++ [1]) (reading 91 [5, 0xc0, 0x81, 0, 0, 0, 0, 0, 0x20, 0x7f, 0xeb, 2])))
    (fun t => (t.run, [t.work.tabs.ll.len.length, t.work.tabs.ll.len.getD 256 0, t.work.tabs.ll.code.getD 256 1,
      t.work.tabs.d.code.getD 0 1], t.work.tabs.d.len)) =
      some (.busy .llsym, [288, 1, 0, 0], 1 :: List.replicate 31 0) := by decide +kernel

/-- Program 6, bits 84 and 85: three more threes; vector I19. -/
theorem test_crep : seen (exec .crep (producing [5, 4, 3] (reading 84 [0x85, 0xc9, 0x29, 0x0e, 0, 0x30, 0x0c, 3, 0xc1, 0xc6, 0x47])))
    (fun t => (t.run, t.work.tabs.lens, t.work.rd.bitpos)) = some (.busy .clsym, [5, 4, 3, 3, 3, 3], 86) := by decide +kernel

theorem test_crep_first : raises .crep (producing [] (reading 29 [5, 0, 2, 0x24])) =
    some (.error, some .invalidTree, 0#31) := by decide +kernel

/-- Program 6, bits 133 to 135: CZERO 4 (the extra bits 1, 0, 0). -/
theorem test_czero_short : seen (exec .czeroShort (producing [4] (reading 133 [0x85, 0xc9, 0x29, 0x0e, 0, 0x30, 0x0c, 3, 0xc1, 0xc6,
    0x47, 0xfa, 0xff, 0x1f, 0x57, 6, 0x21, 0x21]))) (fun t => (t.work.tabs.lens, t.work.rd.bitpos)) =
      some ([4, 0, 0, 0, 0], 136) := by decide +kernel

/-- Vector I11, bits 72 to 78: CZERO 138; vector I20: a second one runs past 258. -/
theorem test_czero_long : seen (exec .czeroLong (producing [] (reading 72 [5, 0xc0, 0x81, 0, 0, 0, 0, 0, 0x20, 0x7f, 0xeb, 2])))
    (fun t => (t.work.tabs.lens, t.work.regs.cli, t.work.rd.bitpos)) = some (List.replicate 138 0, 138#9, 79) := by decide +kernel

theorem test_czero_long_overruns : raises .czeroLong (producing (List.replicate 138 0) (reading 38 [5, 0, 0x80, 0xe4, 0xff, 0x1f])) =
    some (.error, some .invalidTree, 0#31) := by decide +kernel

theorem test_lit : result (.lit 0x62#8) (having [0x61] (reading 0 [])) = some (.busy .llsym, none, by8 [0x61, 0x62]) := by decide +kernel

/-- Vector K9: OUT_CAP = 4. -/
theorem test_lit_full : let s := having [0x61, 0x61, 0x61, 0x61] (reading 0 [])
    raises (.lit 0x61#8) { s with params := { s.params with outCap := 4#31 } } =
      some (.error, some .outOfCapacity, 0#31) := by decide +kernel

theorem test_eob : ∀ c ∈ ([(0#1, .raw, .busy .blk), (1#1, .raw, .done), (1#1, .zlib, .busy .trailer)] :
    List (BitVec 1 × Framing × RunState)),
    let s := (having [0x61] (reading 18 [0x4b, 4, 0])).setFraming c.2.1
    result .eob (s.setRegs { s.work.regs with bfinal := c.1 }) = some (c.2.2, none, by8 [0x61]) := by decide +kernel

/-- The record of program 1. -/
theorem test_eob_records : let s := (having [0x61, 0x61, 0x61, 0x61, 0x61] (reading 30 [0x4b, 4, 1, 0])).setFraming .inspect
    let s := s.setInsp { startBit := 0, startOut := 0, treeBits := 0, symsRev := [.copy 4 1, .lit 0x61#8] }
    seen (exec .eob (s.setRegs { s.work.regs with bfinal := 1#1, btype := 1#2 })) (fun t => (t.run, t.info)) =
      some (.busy .trailer, [⟨1, 30, 5, 0, 0, 0, 0, [], [], [], [.lit 0x61#8, .copy 4 1]⟩]) := by decide +kernel

/-- The last length of each row (R108): the base plus extra bits that are all ones. -/
def lengthTops : List (Instr × Nat) :=
  [(.len257, 3), (.len258, 4), (.len259, 5), (.len260, 6), (.len261, 7), (.len262, 8), (.len263, 9), (.len264, 10),
   (.len265, 12), (.len266, 14), (.len267, 16), (.len268, 18), (.len269, 22), (.len270, 26), (.len271, 30),
   (.len272, 34), (.len273, 42), (.len274, 50), (.len275, 58), (.len276, 66), (.len277, 82), (.len278, 98),
   (.len279, 114), (.len280, 130), (.len281, 162), (.len282, 194), (.len283, 226), (.len284, 258), (.len285, 258)]

theorem test_lengths_top : ∀ r ∈ lengthTops, seen (exec r.1 (reading 4 [0xff, 0xff]))
    (fun t => (t.run, t.work.regs.length.toNat)) = some (.busy .dsym, r.2) := by decide +kernel

theorem test_lengths_base : ∀ r ∈ lengthRows, seen (exec r.1 (reading 4 [0x0f, 0]))
    (fun t => (t.work.regs.length.toNat, t.work.rd.bitpos)) = some (r.2.1, 4 + r.2.2) := by decide +kernel

/-- Vector I16. -/
theorem test_ll_illegal : ∀ b : BitVec 1, raises (.llIllegal b) (having [1] (reading 11 [0x1b, 3])) =
    some (.error, some .invalidSymbol, 0#31) := by decide +kernel

/-- The last distance of each row (R109). -/
def distanceTops : List (Instr × Nat) :=
  [(.dist0, 1), (.dist1, 2), (.dist2, 3), (.dist3, 4), (.dist4, 6), (.dist5, 8), (.dist6, 12), (.dist7, 16), (.dist8, 24),
   (.dist9, 32), (.dist10, 48), (.dist11, 64), (.dist12, 96), (.dist13, 128), (.dist14, 192),
   (.dist15, 256), (.dist16, 384), (.dist17, 512), (.dist18, 768), (.dist19, 1024), (.dist20, 1536), (.dist21, 2048),
   (.dist22, 3072), (.dist23, 4096), (.dist24, 6144), (.dist25, 8192), (.dist26, 12288), (.dist27, 16384),
   (.dist28, 24576), (.dist29, 32768)]

/-- 40000 bytes of output, of which the one `dist` back is 0xAB, and a match of one byte to copy. -/
def farBack (dist : Nat) : State :=
  let s := (reading 4 [0xff, 0xff, 0xff]).setOut [(40000 - dist, 0xAB#8)] 40000#31
  s.setRegs { s.work.regs with length := 1#9 }

theorem test_distances_top : ∀ r ∈ distanceTops, seen (exec r.1 (farBack r.2))
    (fun t => (t.run, t.work.regs.dist.toNat, t.outBuf.read 40000, t.outLen)) =
      some (.busy .llsym, r.2, some 0xAB#8, 40001#31) := by decide +kernel

/-- Vectors I18 and M12: a distance above the output so far, for every row; DIST holds the base. -/
theorem test_distances_beyond : ∀ r ∈ distanceRows, seen (exec r.1 (reading 0 [0, 0, 0]))
    (fun t => (t.errKind, t.work.regs.dist.toNat)) = some (some .badDistance, r.2.1) := by decide +kernel

/-- Vector M11: an overlapping copy. -/
theorem test_match_overlaps : let s := having [0x61, 0x62] (reading 0 [0])
    result .dist1 (s.setRegs { s.work.regs with length := 5#9 }) =
      some (.busy .llsym, none, by8 [0x61, 0x62, 0x61, 0x62, 0x61, 0x62, 0x61]) := by decide +kernel

/-- Vector I17. -/
theorem test_dist_illegal : ∀ b : BitVec 1, raises (.distIllegal b) (having [0x61] (reading 23 [0x4b, 4, 0x3e])) =
    some (.error, some .invalidSymbol, 0#31) := by decide +kernel

/-! ### One scanline of every filter -/

/-- UNFILTER of an RGB 8 image of 2 by 3 at row `row`, the line of bytes at index 0. -/
def unfiltering (row : Nat) (prior line : List Nat) : State :=
  let s := { State.reset.withInput (by8 line) with cfgFilter := 0x429#13, width := 2#31, height := 3#31 }
  let s := (beginPass 1 s).setRun (.busy .scanline)
  (s.setRegs { s.work.regs with row := BitVec.ofNat 31 row }).setLine { s.work.line with prior := by8 prior, pos := 0 }

/-- Vectors F1 to F5, read backwards. -/
theorem test_filt_none : result .filtNone (unfiltering 0 [0, 0, 0, 0, 0, 0] [0x0a, 0x14, 0x1e, 0x0d, 0x16, 0x23]) =
    some (.busy .scanline, none, by8 [0x0a, 0x14, 0x1e, 0x0d, 0x16, 0x23]) := by decide +kernel

theorem test_filt_sub : result .filtSub (unfiltering 1 [9, 9, 9, 9, 9, 9] [0x0a, 0x14, 0x1e, 3, 2, 5]) =
    some (.busy .scanline, none, by8 [0x0a, 0x14, 0x1e, 0x0d, 0x16, 0x23]) := by decide +kernel

theorem test_filt_up : result .filtUp (unfiltering 1 [0x0a, 0x14, 0x1e, 0x0d, 0x16, 0x23] [2, 1, 2, 2, 3, 4]) =
    some (.busy .scanline, none, by8 [0x0c, 0x15, 0x20, 0x0f, 0x19, 0x27]) := by decide +kernel

theorem test_filt_average : result .filtAverage (unfiltering 1 [0x0a, 0x14, 0x1e, 0x0d, 0x16, 0x23] [7, 0x0b, 0x11, 3, 4, 6]) =
    some (.busy .scanline, none, by8 [0x0c, 0x15, 0x20, 0x0f, 0x19, 0x27]) := by decide +kernel

theorem test_filt_paeth : result .filtPaeth (unfiltering 2 [0x0c, 0x15, 0x20, 0x0f, 0x19, 0x27] [0xbc, 0x4f, 0x12, 1, 0xff, 2]) =
    some (.done, none, by8 [0xc8, 0x64, 0x32, 0xc9, 0x63, 0x34]) := by decide +kernel

/-- Vector F14 and every other illegal filter byte's row. -/
theorem test_filt_illegal : ∀ i ∈ ([.filtIllegal5or7 0#1, .filtIllegal5or7 1#1, .filtIllegal6, .filtIllegal8to15 0#3,
    .filtIllegal16to31 0#4, .filtIllegal32to63 0#5, .filtIllegal64to127 0#6, .filtIllegal128to255 127#7] : List Instr),
    raises i (having [1] (unfiltering 1 [0, 0, 0, 0, 0, 0] [])) = some (.error, some .invalidFilterType, 0#31) := by decide +kernel

/-- The Paeth values of 95_test_vectors.md. -/
theorem test_paeth : ∀ v ∈ [(10, 20, 15, 15), (10, 20, 30, 10), (20, 10, 30, 10), (255, 0, 0, 255), (0, 255, 0, 255), (5, 5, 0, 5),
    (5, 5, 10, 5), (1, 3, 2, 2), (100, 200, 150, 150), (0, 0, 0, 0)],
    paeth (BitVec.ofNat 8 v.1) (BitVec.ofNat 8 v.2.1) (BitVec.ofNat 8 v.2.2.1) = BitVec.ofNat 8 v.2.2.2 := by decide +kernel

/-! ### One step of every command -/

/-- Vector K3, from an ERROR state. -/
theorem test_nop : seen (exec .nop (raiseError .badCommand (reading 0 [1]))) (fun t => (t.run, t.errKind, t.errCode, t.outLen)) =
    some (.done, none, 0#32, 0#31) := by decide +kernel

theorem test_inflate : seen (exec .inflate (having [9] (reading 5 [0x4b, 4, 0]))) (fun t => (t.run, t.work.rd, t.outLen)) =
    some (.busy .blk, { bitpos := 0, base := 0, size := 3 }, 0#31) := by decide +kernel

/-- Vectors Z12, Z13. -/
theorem test_zlib_decompress_short : raises .zlibDecompress (reading 0 [0x78, 2, 3, 0, 0]) =
    some (.error, some .unexpectedEnd, 0#31) := by decide +kernel

theorem test_zlib_decompress : seen (exec .zlibDecompress (reading 0 [0x78, 1, 3, 0, 0, 0, 0, 1]))
    (fun t => (t.run, t.work.framing)) = some (.busy .zhdr, .zlib) := by decide +kernel

theorem test_zlib_info : seen (exec .zlibInfo (reading 0 [0x78, 1, 3, 0, 0, 0, 0, 1]))
    (fun t => (t.run, t.work.framing)) = some (.busy .zhdr, .inspect) := by decide +kernel

/-- Vectors D6 (BTYPE 0, BLOCK_SIZE = 4) and D3. -/
theorem test_deflate_stored : let s := reading 0 [0x61, 0x62, 0x63, 0x64, 0x65, 0x66, 0x67, 0x68, 0x69, 0x6a]
    result .deflate { s with cfgDeflate := 0b1100#4, params := { s.params with blockSize := 4 } } =
      some (.done, none, by8 [0, 4, 0, 0xfb, 0xff, 0x61, 0x62, 0x63, 0x64, 0, 4, 0, 0xfb, 0xff, 0x65, 0x66, 0x67, 0x68, 1, 2, 0,
        0xfd, 0xff, 0x69, 0x6a]) := by decide +kernel

theorem test_deflate_fixed : result .deflate (reading 0 [0x61, 0x62, 0x72, 0x61, 0x63, 0x61, 0x64, 0x61, 0x62, 0x72, 0x61]) =
    some (.done, none, by8 [0x4b, 0x4c, 0x2a, 0x4a, 0x4c, 0x4e, 0x4c, 1, 0x51, 0]) := by decide +kernel

/-- Vector D2, and D14 (WINDOWSIZE 3000, code 90). -/
theorem test_zlib_compress : result .zlibCompress (reading 0 [0x61]) =
    some (.done, none, by8 [0x78, 1, 0x4b, 4, 0, 0, 0x62, 0, 0x62]) := by decide +kernel

theorem test_zlib_compress_window : seen (exec .zlibCompress { reading 0 [0x61] with windowSize := 3000#17 })
    (fun t => (t.run, t.errKind, t.errCode)) = some (.error, some .powerOfTwoRequired, 90#32) := by decide +kernel

theorem test_crc_init : seen (exec .crcInit { reading 0 [] with crcReg := 5#32 }) (fun t => (t.crcReg, t.crcValue, t.run)) =
    some (0xFFFFFFFF#32, 0#32, .done) := by decide +kernel

/-- Vectors C2 and C5. -/
theorem test_crc_update : ∀ v ∈ [([0x61], 0x174841BC#32), ([0x49, 0x45, 0x4e, 0x44], 0x51BD9F7D#32)],
    seen (exec .crcUpdate (reading 0 v.1)) State.crcReg = some v.2 := by decide +kernel

theorem test_adler_init : seen (exec .adlerInit { reading 0 [] with adlerS1 := 7#16, adlerS2 := 9#16 }) State.adlerValue =
    some 1#32 := by decide +kernel

/-- Vector A4. -/
theorem test_adler_update : seen (exec .adlerUpdate (reading 0 [0x57, 0x69, 0x6b, 0x69, 0x70, 0x65, 0x64, 0x69, 0x61])) State.adlerValue =
    some 0x11E60398#32 := by decide +kernel

/-- An image in the registers and in IN. -/
def image (cfg : BitVec 13) (w h : Nat) (l : List Nat) : State :=
  { reading 0 l with cfgFilter := cfg, width := BitVec.ofNat 31 w, height := BitVec.ofNat 31 h }

/-- Vectors F6 and F11. -/
theorem test_filter : result .filter (image 0x429#13 2 3 [0x0a, 0x14, 0x1e, 0x0d, 0x16, 0x23, 0x0c, 0x15, 0x20, 0x0f, 0x19, 0x27,
    0xc8, 0x64, 0x32, 0xc9, 0x63, 0x34]) = some (.done, none, by8 [1, 0x0a, 0x14, 0x1e, 3, 2, 5, 2, 2, 1, 2, 2, 3, 4, 4, 0xbc,
      0x4f, 0x12, 1, 0xff, 2]) := by decide +kernel

theorem test_filter_interlaced : result .filter (image 0x1401#13 5 3 [0x0a, 0x0b, 0x0c, 0x0d, 0x0e, 0x0f, 0x10, 0x11, 0x12, 0x13,
    0x14, 0x15, 0x16, 0x17, 0x18]) = some (.done, none, by8 [0, 0x0a, 0, 0x0b, 0, 0x0c, 1, 0x0d, 1, 1, 1, 0x10, 1, 4, 2, 1, 1,
      0x14, 1, 1, 1, 1]) := by decide +kernel

/-- The example of R315: the entropy strategy's types for the three lines of vector F6. -/
theorem test_entropy_choice : ∀ v ∈ [([0x0a, 0x14, 0x1e, 0x0d, 0x16, 0x23], [0, 0, 0, 0, 0, 0], 3),
    ([0x0c, 0x15, 0x20, 0x0f, 0x19, 0x27], [0x0a, 0x14, 0x1e, 0x0d, 0x16, 0x23], 2),
    ([0xc8, 0x64, 0x32, 0xc9, 0x63, 0x34], [0x0c, 0x15, 0x20, 0x0f, 0x19, 0x27], 0)],
    entropyPick .reference ((List.range 5).map fun f => filterLine f 3 (by8 v.1) (by8 v.2.1)) = v.2.2 := by decide +kernel

/-- R309: a predefined filter byte of 5. -/
theorem test_filter_predefined_illegal : raises .filter { image 0x404#13 1 2 [7, 8] with auxBuf := [(0, 4#8), (1, 5#8)], auxLen := 2#31 } =
    some (.error, some .invalidFilterType, 0#31) := by decide +kernel

/-- Vector F15, and the start of F14's image. -/
theorem test_unfilter_length : raises .unfilter (image 0x401#13 1 1 [0]) = some (.error, some .lengthMismatch, 0#31) := by decide +kernel

theorem test_unfilter_starts : seen (exec .unfilter (image 0x401#13 1 1 [5, 0])) (fun t => ((t.run, t.work.regs.pass,
    t.work.regs.row), t.work.regs.linebytes, t.work.regs.bytewidth, t.work.line.prior)) =
      some ((.busy .scanline, 1#3, 0#31), 1#34, 1#4, [0#8]) := by decide +kernel

/-- Vector K2: every illegal row. -/
theorem test_cmd_illegal : ∀ w ∈ reservedWords, seen (exec w.2 (having [1] (reading 0 [2])))
    (fun t => (t.run, t.errKind, t.outLen, t.crcReg, t.cfgDeflate)) =
      some (.error, some .badCommand, 0#31, 0xFFFFFFFF#32, 0b1110#4) := by decide +kernel

/-! ### Whole steps -/

/-- Vectors K5, K6: reserved bits do not store. -/
theorem test_register_bits : seen (step (State.reset.setHost [.writeReg 0x24 0xFFFFFFFF#32])) (fun t => t.readReg 0x24) =
    some 0x0000000F#32 ∧ seen (step (State.reset.setHost [.writeReg 0x28 0x00030000#32])) (fun t => t.readReg 0x28) =
    some 0x00010000#32 := by decide +kernel

/-- Vectors K2, K10, K11. -/
theorem test_step_command : seen (step (State.reset.setHost [.writeReg 0 0x101#32])) (fun t => (t.readReg 4, t.readReg 8)) =
    some (3#32, 18#32) := by decide +kernel

theorem test_step_busy_write : let s := ((reading 0 [3, 0]).setRun (.busy .blk)).setHost [.writeReg 0 0#32]
    step s = .next (s.setHost []) := by rfl

theorem test_step_reset : let s := ((having [1] (reading 0 [3, 0])).setRun (.busy .blk)).setHost [.reset]
    step s = .next State.reset := by rfl

/-- Vector I17's last element: DIST 30 is decoded from five bits and raises. -/
theorem test_step_fetches : let s := ((having [0x61] (reading 18 [0x4b, 4, 0x3e])).withFixedTables).setRun (.busy .dsym)
    seen (step s) (fun t => (t.run, t.errKind, t.work.rd.bitpos)) = some (.error, some .invalidSymbol, 23) := by decide +kernel

theorem test_fetch_word : seen (step (State.reset.withFetchWord 16 0x7801)) (fun t => t.run) = some (.busy .blk) ∧
    seen (step (State.reset.withFetchWord 16 0x61)) (fun t => t.outBuf) = some [(0, 0x61#8)] := by decide +kernel

/-! ### Witnesses: states and operands that meet the hypotheses of the statements, clause by clause -/

/-- A block that runs INFLATE of an empty fixed block, with the host's further actions. -/
def running (l : List HostOp) : State := ((reading 0 [3, 0]).setRun (.busy .blk)).setHost l

/-- A small OUT_CAP. -/
def capped (n : Nat) (s : State) : State := { s with params := { s.params with outCap := BitVec.ofNat 31 n } }

theorem witness_ResetRegisters : ∃ rest, (running [.reset, .tick]).host = .reset :: rest := ⟨[.tick], rfl⟩

/-- A register with bits, a read-only one and a reserved offset. -/
theorem witness_RegisterWritesStoreImplementedBits : (∀ off ∈ [0x10, 0x44, 0x1C],
    (State.reset.setHost [.writeReg off 1#32]).host = .writeReg off 1#32 :: [] ∧
      (State.reset.setHost [.writeReg off 1#32]).isBusy = false ∧ off ≠ 0) ∧ implementedBits 0x10 ≠ 0#32 ∧
    implementedBits 0x44 = 0#32 ∧ implementedBits 0x1C = 0#32 := by decide +kernel

theorem witness_WritesWhileBusyAreIgnored : ∀ off ∈ [0, 0x10], (running [.writeReg off 1#32]).isBusy = true ∧
    (running [.writeReg off 1#32]).host = .writeReg off 1#32 :: [] := by decide +kernel

theorem witness_HostReadsRegisters : (∀ off ∈ [0x04, 0x08], (running [.readReg off]).host = .readReg off :: []) ∧
    (State.reset.setHost [.readReg 0x24]).isBusy = false := by decide +kernel

theorem witness_HostAccessesBuffers : ∀ i ∈ [0, 0x7FFFFFFE, 0x7FFFFFFF],
    (State.reset.setHost [.writeIn i 1#8]).isBusy = false ∧ (running [.writeIn i 1#8]).isBusy = true ∧
      (State.reset.setHost [.writeAux i 1#8]).host = .writeAux i 1#8 :: [] ∧ (running [.writeIn i 1#8]).host = .writeIn i 1#8 :: [] ∧
      (i < State.reset.params.inCap.toNat ∨ State.reset.params.inCap.toNat ≤ i) ∧
      (i < State.reset.params.auxCap.toNat ∨ State.reset.params.auxCap.toNat ≤ i) := by decide +kernel

theorem witness_HostAccessesBuffers_readOut : let s := (having [5, 6] State.reset).setHost [.readOut 1]
    s.host = .readOut 1 :: [] ∧ s.isBusy = false ∧ 1 < s.params.outCap.toNat ∧ 1 < s.outLen.toNat ∧
      s.outBuf.read 1 = some 6#8 := by decide +kernel

theorem witness_StepRunsTheFetchedElement : (∀ l ∈ [[], [.poll], [.tick]], (running l).run = .busy .blk) ∧
    (running []).host = [] ∧ (running [.poll]).host = .poll :: [] ∧ (running [.tick]).host = .tick :: [] ∧
    fetchValue .blk (running []) = .ok 3 ((running []).setBitpos 3) ∧ decode Phase.blk.format 3 = some (.blockFixed 1#1) ∧
    fetchValue .blk ((running []).setBitpos 14) = .raise .unexpectedEnd ((running []).setBitpos 14) ∧
    State.reset.isBusy = false ∧ State.reset.host = [] := by decide +kernel

theorem witness_StepRunsTheCommand : (State.reset.setHost [.writeReg 0 8#32]).host = .writeReg 0 8#32 :: [] ∧
    decode .cmdw (8#32).toNat = some .crcInit := by decide +kernel

theorem witness_FetchReadsTheElement : let s := (reading 1 [3, 1, 0, 1]).setTabs { ll := fixedLL, d := fixedD, cl := buildCodes 7 [1, 1], lens := [] }
    (s.work.rd.bitpos + 3 ≤ s.inputBits ∧ streamField s s.work.rd.bitpos 3 = some 1) ∧
      (2 ≤ s.inLen.toNat ∧ s.inBuf.read 0 = some 3#8 ∧ s.inBuf.read 1 = some 1#8) ∧
      (4 ≤ s.inLen.toNat ∧ s.inBuf.read (s.inLen.toNat - 4) = some 3#8 ∧ s.inBuf.read (s.inLen.toNat - 3) = some 1#8 ∧
        s.inBuf.read (s.inLen.toNat - 2) = some 0#8 ∧ s.inBuf.read (s.inLen.toNat - 1) = some 1#8) ∧
      (s.work.line.pos < s.inLen.toNat ∧ s.inBuf.read s.work.line.pos = some 3#8) ∧
      decodeSymbol s.work.tabs.cl s = .ok 1 (s.setBitpos 2) ∧ decodeSymbol s.work.tabs.ll s = .ok 81 (s.setBitpos 9) ∧
      decodeSymbol s.work.tabs.d s = .ok 16 (s.setBitpos 6) := by decide +kernel

theorem witness_DecodeEncode : (Instr.zhdr 7#3 0#2 1#5).wellFormed = true ∧ (Instr.cmdIllegalBit31 0#31).wellFormed = true := by
  decide +kernel

theorem witness_EncodeDecode : ∀ w ∈ ([(.zhdr, 65535), (.ztrl, 0), (.blk, 7), (.clsym, 18), (.llsym, 287), (.dsym, 31),
    (.scanline, 255), (.cmdw, 4294967295)] : List (Format × Nat)),
    (decode w.1 w.2).isSome = true ∧ w.1 ≠ .stored ∧ w.1 ≠ .dynhdr := by decide +kernel

/-- Vectors B1, B4, B6: a field to the last bit, none, and one bit too many. -/
theorem witness_ReadBitsGivesTheNextField : (reading 3 [0x4b]).nextField 5 9 ∧ (reading 8 [0x4b]).nextField 0 0 ∧
    (reading 3 [0x4b]).inputBits < (reading 3 [0x4b]).work.rd.bitpos + 6 := by
  unfold State.nextField; decide +kernel

theorem witness_ReadIsPeekThenAdvance : (reading 3 [0x4b]).work.rd.bitpos + 5 ≤ (reading 3 [0x4b]).inputBits ∧
    (reading 3 [0x4b]).inputBits < (reading 3 [0x4b]).work.rd.bitpos + 6 := by decide +kernel

theorem witness_ByteAlignRoundsUp : ∀ p ∈ [0, 3, 8], (reading p [0x4b]).work.rd.bitpos ≤ (reading p [0x4b]).inputBits := by
  decide +kernel

theorem witness_WrittenBitsReadBack : ∃ s : State, s.inBuf = Memory.ofBytes 0 (finalize [true, false, true]) ∧
    s.work.rd.base = 0 := ⟨{ State.reset with inBuf := Memory.ofBytes 0 (finalize [true, false, true]) }, rfl, rfl⟩

/-- Vector H1. -/
theorem witness_CanonicalCodes : let len := [3, 3, 3, 3, 3, 2, 4, 4]
    (∀ l ∈ len, l ≤ 15) ∧ kraftSum 15 len ≤ 2 ^ 15 ∧ (buildCodes 15 len).used 0 ∧ (buildCodes 15 len).used 5 ∧
      len.getD 5 0 < len.getD 0 0 ∧ (buildCodes 15 len).used 1 ∧ len.getD 0 0 = len.getD 1 0 := by
  unfold HuffTable.used; decide +kernel

/-- The table of vectors H12 and H13: one code word, the bit 0. -/
def oneWord : HuffTable := buildCodes 15 [1]

theorem oneWord_used (a : Nat) : oneWord.used a → a = 0 := by
  intro h
  match a with
  | 0 => rfl
  | n + 1 => exact absurd (by simp [oneWord, buildCodes]) h

theorem oneWord_sound : oneWord.sound ∧ oneWord.noWordBeginsAnother := by
  refine ⟨⟨by decide +kernel, ?_⟩, ?_⟩
  · intro a h
    obtain rfl := oneWord_used a h
    decide +kernel
  · intro a b ha hb hab
    exact absurd ((oneWord_used a ha).trans (oneWord_used b hb).symm) hab

theorem empty_sound : HuffTable.empty.sound ∧ HuffTable.empty.noWordBeginsAnother ∧ HuffTable.empty.maxLen = 0 :=
  ⟨⟨rfl, fun _ h => absurd rfl h⟩, fun _ _ h => absurd rfl h, rfl⟩

/-- The bit 0 is the word; the bit 1 is not; at the end of the input there is none; the empty table has no word (H6). -/
theorem witness_SymbolDecoderFindsTheNextWord : (oneWord.sound ∧ oneWord.noWordBeginsAnother) ∧
    (HuffTable.empty.sound ∧ HuffTable.empty.noWordBeginsAnother ∧ HuffTable.empty.maxLen = 0) ∧ oneWord.used 0 ∧ (reading 0 [0]).nextBits (oneWord.word 0) ∧
    ¬ (reading 0 [1]).nextBits (oneWord.word 0) ∧
    (∀ k, k < (reading 0 [1]).inputBits → (streamBit (reading 0 [1]) k).isSome = true) ∧
    (reading 0 [1]).work.rd.bitpos + oneWord.maxLen ≤ (reading 0 [1]).inputBits ∧
    ¬ (reading 8 [1]).nextBits (oneWord.word 0) ∧ (reading 8 [1]).work.rd.bitpos ≤ (reading 8 [1]).inputBits ∧
    (reading 8 [1]).inputBits < (reading 8 [1]).work.rd.bitpos + oneWord.maxLen := by
  refine ⟨oneWord_sound, empty_sound, ?_⟩
  unfold HuffTable.used State.nextBits; decide +kernel

/-- Vectors L8, L9, L10. -/
theorem witness_AtMostOneUsedSymbol : (2 ≤ [0, 0].length ∧ ∀ x ∈ [0, 0], x = 0) ∧
    (∀ t, t < [0, 0, 7, 0].length → ([0, 0, 7, 0].getD t 0 ≠ 0 ↔ t = 2)) ∧
    (∀ t, t < [5, 0, 0].length → ([5, 0, 0].getD t 0 ≠ 0 ↔ t = 0)) := by decide +kernel

/-- Vectors M8, M9 and the ends of the ranges. -/
theorem witness_MatchSymbolsCoverTheRanges : [3, 10, 11, 12, 227, 257, 258].map lsym = [257, 264, 265, 265, 284, 284, 285] ∧
    [1, 4, 5, 7, 8, 12, 32, 24577, 32768].map dsym = [0, 3, 4, 5, 5, 6, 9, 29, 29] ∧ 31 < 2 ^ lextra 284 ∧ 0 < 2 ^ lextra 285 ∧
    8191 < 2 ^ dextra 29 := by decide +kernel

/-- Vectors M11, M12: distances at both ends of the history, beyond it, and 0. -/
theorem witness_MatchCopiesFromBehind : let h := by8 [0x61, 0x62]
    (1 ≤ 1 ∧ 1 ≤ h.length) ∧ (1 ≤ 2 ∧ 2 ≤ h.length) ∧ (1 ≤ 3 ∧ h.length < 3) ∧
      expand h [.copy 5 2] = some (by8 [0x61, 0x62, 0x61, 0x62, 0x61]) ∧ expand h [.copy 3 3] = none ∧
      expand h [.copy 3 0] = none := by decide +kernel

/-- The second block of "abcabcabc", cut after three bytes, with the chains the first block left, which find a match in
it; an empty block at the end. -/
theorem witness_MatchFinderMeetsItsContract : let data := by8 [0x61, 0x62, 0x63, 0x61, 0x62, 0x63, 0x61, 0x62, 0x63]
    let t := (findSymbols State.reset.finder data 0 3 { head := [], prev := [] }).2
    (3 ≤ data.length ∧ data.length ≤ data.length) ∧ t.below 3 ∧ t.below data.length ∧
      (findSymbols State.reset.finder data 3 data.length t).1 = [.copy 6 3] := by
  unfold Chains.below; decide +kernel

theorem witness_RunLengthCodingExpands : ∀ v ∈ [0, 0, 0, 15, 15, 15, 15, 15, 1], v ≤ 15 := by decide +kernel

/-- A stored block of two bytes. -/
def storedPlan (n : Nat) : BlockPlan :=
  { len := n, btype := 0, syms := [], hlit := 0, hdist := 0, hclen := 0, llLen := [], dLen := [], clLen := [], clItems := [] }

theorem witness_BlockSizeIsTheBitsEmitted : (by8 [1, 2]).length = (storedPlan 2).len ∧ (storedPlan 2).hclen ≤ 19 ∧
    (blockBits 3 true (by8 [1, 2]) (storedPlan 2)).length = 3 + 2 + 32 + 16 := by decide +kernel

/-- Three bytes cut into a block of two, an empty one and one of one. -/
theorem witness_StoredStreamRoundTrip : let plans := [storedPlan 2, storedPlan 0, storedPlan 1]
    let z := finalize (streamBits 0 (by8 [7, 8, 9]) plans)
    let s := (State.reset.withInput z).setRun (.busy .blk)
    plans ≠ [] ∧ (∀ p ∈ plans, p.btype = 0 ∧ p.len ≤ 65535) ∧ (plans.map BlockPlan.len).sum = (by8 [7, 8, 9]).length ∧
      s.inBuf = Memory.ofBytes 0 z ∧ s.inLen.toNat = z.length ∧ s.run = .busy .blk ∧ s.work.framing = .raw ∧
      s.work.rd = { bitpos := 0, base := 0, size := z.length } ∧ s.outBuf = [] ∧ s.outLen = 0#31 ∧
      (by8 [7, 8, 9]).length ≤ s.params.outCap.toNat ∧ s.host = [] := by decide +kernel

theorem witness_ErrorCodes : ErrKind.unexpectedEnd ≠ .badCrc ∧ ErrKind.unexpectedEnd ≠ .badAdler ∧
    ErrKind.unexpectedEnd ≠ .invalidWindowSize ∧ ErrKind.unexpectedEnd ≠ .powerOfTwoRequired := by decide +kernel

theorem witness_IllegalElementsRaise : illegalKind (.zhdrBadCinfo 0#15) = some .badZlibHeader ∧
    illegalKind (.blockReserved 0#1) = some .invalidBlock ∧ illegalKind (.llIllegal 1#1) = some .invalidSymbol ∧
    illegalKind (.distIllegal 0#1) = some .invalidSymbol ∧
    illegalKind (.filtIllegal128to255 127#7) = some .invalidFilterType := by decide +kernel

theorem witness_LiteralAppendsItsByte : let s := capped 2 (having [1] State.reset)
    let f := capped 1 (having [1] State.reset)
    s.outLen.toNat < s.params.outCap.toNat ∧ f.params.outCap.toNat ≤ f.outLen.toNat ∧ s.work.framing ≠ .inspect ∧
      (s.setFraming .inspect).work.framing = .inspect := by decide +kernel

/-- The three ways a block's end goes on (test_eob runs them). -/
theorem witness_EndOfBlockGoesOn : let s := State.reset
    s.work.regs.bfinal = 0#1 ∧ s.work.framing = .raw ∧ s.work.regs.btype ≠ 2#2 ∧ (s.setFraming .inspect).work.framing ≠ .raw ∧
      (s.setRegs { s.work.regs with bfinal := 1#1, btype := 2#2 }).work.regs.bfinal = 1#1 := by decide +kernel

theorem witness_LengthElementsSetLength : (Instr.len257, 3, 0) ∈ lengthRows ∧ (reading 8 [0xff]).nextField 0 0 ∧
    (Instr.len284, 227, 5) ∈ lengthRows ∧ (reading 3 [0xff]).nextField 5 31 ∧
    (reading 4 [0xff]).inputBits < (reading 4 [0xff]).work.rd.bitpos + 5 := by
  unfold State.nextField; decide +kernel

/-- DIST_0 at the first byte of a history of one, with exactly the room and one byte less; DIST_4 with its extra bit one
beyond; DIST_29 without extra bits. -/
theorem witness_DistanceElementsCopyTheMatch : let s := capped 6 (having [7] (reading 0 [1]))
    let s := s.setRegs { s.work.regs with length := 5#9 }
    (Instr.dist0, 1, 0) ∈ distanceRows ∧ s.nextField 0 0 ∧ 1 + 0 ≤ s.outLen.toNat ∧
      (s.outBuf.read (s.outLen.toNat - (1 + 0))).isSome = true ∧
      s.outLen.toNat + s.work.regs.length.toNat ≤ s.params.outCap.toNat ∧
      (capped 5 s).nextField 0 0 ∧ 1 + 0 ≤ (capped 5 s).outLen.toNat ∧ 1 ≤ (capped 5 s).work.regs.length.toNat ∧
      (capped 5 s).params.outCap.toNat < (capped 5 s).outLen.toNat + (capped 5 s).work.regs.length.toNat ∧
      (Instr.dist4, 5, 1) ∈ distanceRows ∧ s.nextField 1 1 ∧ s.outLen.toNat < 5 + 1 ∧
      (Instr.dist29, 24577, 13) ∈ distanceRows ∧ s.inputBits < s.work.rd.bitpos + 13 := by
  unfold State.nextField; decide +kernel

/-- Vectors I4, I14, I15, at bit 3. -/
theorem witness_StoredBlockCopies : let s := capped 5 (reading 3 [1, 5, 0, 0xfa, 0xff, 0x68, 0x65, 0x6c, 0x6c, 0x6f])
    let m := reading 3 [1, 5, 0, 0xfa, 0xf0]
    let e := reading 3 [1, 5, 0, 0xfa, 0xff, 0x68, 0x65]
    8 = 8 * ((s.work.rd.bitpos + 7) / 8) ∧ (s.setBitpos 8).nextField 16 5 ∧ (s.setBitpos (8 + 16)).nextField 16 0xFFFA ∧
      5 + 0xFFFA = 65535 ∧ 8 + 32 + 8 * 5 ≤ s.inputBits ∧
      s.inBuf.bytes (s.work.rd.base + 8 / 8 + 4) 5 = some (by8 [0x68, 0x65, 0x6c, 0x6c, 0x6f]) ∧
      s.outLen.toNat + 5 ≤ s.params.outCap.toNat ∧ (capped 4 s).params.outCap.toNat < (capped 4 s).outLen.toNat + 5 ∧
      ((capped 4 s).setBitpos 8).nextField 16 5 ∧ ((capped 4 s).setBitpos (8 + 16)).nextField 16 0xFFFA ∧
      (m.setBitpos 8).nextField 16 5 ∧ (m.setBitpos (8 + 16)).nextField 16 0xF0FA ∧ 5 + 0xF0FA ≠ 65535 ∧
      (e.setBitpos 8).nextField 16 5 ∧ (e.setBitpos (8 + 16)).nextField 16 0xFFFA ∧ e.inputBits < 8 + 32 + 8 * 5 := by
  unfold State.nextField; decide +kernel

/-- The hypotheses of a dynamic header's fields, as one check. -/
def headerOf (s : State) (a b c : Nat) (cl : List Nat) : Bool :=
  decide (s.work.rd.bitpos + 14 + 3 * (c + 4) ≤ s.inputBits) && decide (streamField s s.work.rd.bitpos 5 = some a) &&
    decide (streamField s (s.work.rd.bitpos + 5) 5 = some b) && decide (streamField s (s.work.rd.bitpos + 10) 4 = some c) &&
    decide (cl.length = 19) &&
    (List.range 19).all fun i =>
      let v := cl.getD ([16, 17, 18, 0, 8, 7, 9, 6, 10, 5, 11, 4, 12, 3, 13, 2, 14, 1, 15].getD i 0) 0
      if i < c + 4 then decide (streamField s (s.work.rd.bitpos + 14 + 3 * i) 3 = some v) else decide (v = 0)

/-- Vectors I11 (18 fields) and I22 (4 fields, over-subscribed). -/
theorem witness_DynamicHeaderBuildsTheLengthCode :
    headerOf (reading 3 [5, 0xc0, 0x81, 0, 0, 0, 0, 0, 0x20, 0x7f, 0xeb, 2]) 0 0 14
        ([0, 2] ++ List.replicate 16 0 ++ [1]) = true ∧
      kraftSum 7 ([0, 2] ++ List.replicate 16 0 ++ [1]) ≤ 2 ^ 7 ∧
      headerOf (reading 3 [5, 0, 0x92, 0]) 0 0 0 (List.replicate 16 0 ++ [1, 1, 1]) = true ∧
      2 ^ 7 < kraftSum 7 (List.replicate 16 0 ++ [1, 1, 1]) := by decide +kernel

/-- A sequence with a code-length table. -/
def producingWith (lens : List Nat) (s : State) : State :=
  let s := producing lens s
  s.setTabs { s.work.tabs with cl := buildCodes 7 ([0, 2] ++ List.replicate 16 0 ++ [1]) }

/-- Each repeat reaching exactly HLIT + HDIST = 258 lengths, and the last CLEN of vector I11 with legal tables. -/
theorem witness_CodeLengthElementsProduceLengths :
    (∀ n ∈ [1, 117, 248, 252, 257], (producingWith (List.replicate n 0) (reading 0 [0xff, 0xff])).lengthsInProgress) ∧
    (reading 0 [0xff]).nextField 2 3 ∧ 252 + (3 + 3) ≤ 257 + 1 ∧ (reading 0 [0xff]).nextField 3 7 ∧ 248 + (3 + 7) ≤ 257 + 1 ∧
    (reading 0 [0xff]).nextField 7 127 ∧ 117 + (11 + 127) < 257 + 1 ∧
    (producingWith [] (reading 0 [])).treesLegal (List.replicate 256 0 ++ [1, 1]) ∧
    ¬ (producingWith [] (reading 0 [])).treesLegal (List.replicate 257 0 ++ [1]) := by
  unfold State.nextField State.lengthsInProgress State.treesLegal State.lensWanted; decide +kernel

theorem witness_CodeLengthRepeatsRaise : let s := producing (List.replicate 253 0) (reading 0 [0xff])
    (producing [] (reading 0 [])).work.regs.cli = 0#9 ∧ s.work.regs.cli ≠ 0#9 ∧ s.nextField 2 3 ∧
      s.lensWanted < s.work.regs.cli.toNat + (3 + 3) ∧ s.nextField 3 7 ∧ s.lensWanted < s.work.regs.cli.toNat + (3 + 7) ∧
      s.nextField 7 127 ∧ s.lensWanted < s.work.regs.cli.toNat + (11 + 127) := by
  unfold State.nextField; decide +kernel

theorem witness_ZlibHeaderIsChecked : ((7#3).toNat * 4096 + 2048 + (0#2).toNat * 64 + (1#5).toNat) % 31 = 0 ∧
    ((7#3).toNat * 4096 + 2048 + (0#2).toNat * 64 + (2#5).toNat) % 31 ≠ 0 := by decide +kernel

/-- Vectors A2 and Z6, Z7. -/
theorem witness_ZlibTrailerIsChecked : let s := having [0x61] State.reset
    s.outBuf.bytes 0 s.outLen.toNat = some (by8 [0x61]) ∧ adler32 (by8 [0x61]) = 0x00620062#32 ∧
      adler32 (by8 [0x61]) ≠ 0x00620063#32 ∧ s.cfgInflate = 0#1 ∧ ({ s with cfgInflate := 1#1 } : State).cfgInflate = 1#1 := by
  decide +kernel

theorem witness_ScanlinePredictors : (1 ≤ 3 ∧ 0 < (by8 [1, 2, 3, 4]).length) ∧ 3 < (by8 [1, 2, 3, 4]).length := by decide +kernel

/-- Ties and both strict cases of the two choices: the values of 95_test_vectors.md. -/
theorem witness_PaethPicksTheNearest : paeth 10#8 20#8 30#8 = 10#8 ∧ paeth 20#8 10#8 30#8 = 10#8 ∧ paeth 10#8 20#8 15#8 = 15#8 := by
  decide +kernel

/-- UNFILTER of a Grey 8 image of 5 by 3, interlaced, at the first row of pass `p`, a line of zeros at index 0. -/
def atPass (p n : Nat) : State :=
  let s := beginPass p { State.reset.withInput (List.replicate n 0#8) with cfgFilter := 0x1401#13, width := 5#31, height := 3#31 }
  s.setRun (.busy .scanline)

/-- The row before the last of pass 6, which has two rows; the last row of pass 2, followed by the empty pass 3 and pass
4; the last row of the last pass. -/
theorem witness_ScanlineElementsReconstruct : (∀ r ∈ filterRowsOf, r.2 ≤ 4) ∧
    (∀ p ∈ [2, 6, 7], (atPass p 5).lineInProgress ∧
      (atPass p 5).work.line.pos + (atPass p 5).work.regs.linebytes.toNat ≤ (atPass p 5).inLen.toNat ∧
      ((atPass p 5).inBuf.bytes (atPass p 5).work.line.pos (atPass p 5).work.regs.linebytes.toNat).isSome = true ∧
      (atPass p 5).outLen.toNat + (atPass p 5).work.regs.linebytes.toNat ≤ (atPass p 5).params.outCap.toNat ∧
      (capped 0 (atPass p 5)).lineInProgress ∧ (capped 0 (atPass p 5)).inLen = (atPass p 5).inLen ∧
      (capped 0 (atPass p 5)).inBuf = (atPass p 5).inBuf ∧
      (capped 0 (atPass p 5)).params.outCap.toNat < (capped 0 (atPass p 5)).outLen.toNat +
        (capped 0 (atPass p 5)).work.regs.linebytes.toNat) ∧
    0 + 1 < ((atPass 6 5).dims 6).2 ∧ 0 + 1 = ((atPass 2 5).dims 2).2 ∧ (atPass 2 5).passUsed 3 = false ∧
    (atPass 2 5).passUsed 4 = true ∧ 0 + 1 = ((atPass 7 5).dims 7).2 := by
  unfold State.lineInProgress; decide +kernel

theorem witness_PassesPartitionTheImage : 1 ≤ 1 ∧ ([1, 2, 3, 4, 5, 6, 7].map fun p => passDims true 5 3 p) =
    [(1, 1), (1, 1), (2, 0), (1, 1), (3, 1), (2, 2), (5, 1)] := by decide +kernel

/-- Each strategy of FILTER on the second line of vector F6, under either arithmetic. -/
theorem witness_FilterRowChoosesAndFilters : ∀ k ∈ [0, 1, 2, 3, 4], ∀ c ∈ [Choice.reference, Choice.free],
    let s := image (BitVec.ofNat 13 (0x428 - 8 + k)) 2 3 [0x0c, 0x15, 0x20, 0x0f, 0x19, 0x27]
    let s := (beginPass 1 { s with auxBuf := [(0, 4#8)], auxLen := 1#31, params := { s.params with entropy := c } }).setLine
      { s.work.line with prior := by8 [0x0a, 0x14, 0x1e, 0x0d, 0x16, 0x23], pos := 0, line := 0 }
    s.work.line.pos + s.work.regs.linebytes.toNat ≤ s.inLen.toNat ∧
      (s.inBuf.bytes s.work.line.pos s.work.regs.linebytes.toNat).isSome = true ∧
      s.outLen.toNat + s.work.regs.linebytes.toNat + 1 ≤ s.params.outCap.toNat ∧ s.effectiveStrategy = k ∧
      s.auxBuf.read s.work.line.line = some 4#8 ∧ (4#8).toNat ≤ 4 ∧ s.params.entropy = c := by decide +kernel

theorem witness_NopAndChecksumCommands : (reading 0 [0x61]).canLaunch ∧ (reading 0 [0x61]).inputIs (by8 [0x61]) := by
  unfold State.canLaunch State.inputIs; decide +kernel

/-- Lengths 5 and 6. -/
theorem witness_DecompressCommandsStart : (reading 0 [0, 0, 0, 0, 0]).canLaunch ∧ (reading 0 [0, 0, 0, 0, 0]).inLen.toNat < 6 ∧
    6 ≤ (reading 0 [0, 0, 0, 0, 0, 0]).inLen.toNat := by
  unfold State.canLaunch; decide +kernel

/-- Vector D2: a stream of three bytes, against capacities on both sides of 3 and of 9. -/
theorem witness_CompressCommandsDeliverTheStream : let s := reading 0 [0x61]
    s.canLaunch ∧ s.inputIs (by8 [0x61]) ∧ (256 = 2 ^ 8 ∧ s.windowSize.toNat = 2 ^ 11) ∧ s.btypeLimit ≠ 3 ∧
      (3 ≤ s.minMatch.toNat ∧ s.minMatch.toNat ≤ 258) ∧ (3 ≤ s.niceMatch.toNat ∧ s.niceMatch.toNat ≤ 258) ∧
      finalize (streamBits 0 (by8 [0x61]) (choosePlans (startCommand s) (by8 [0x61])).1) = by8 [0x4b, 4, 0] ∧
      (3 ≤ (capped 3 s).params.outCap.toNat ∧ (capped 2 s).params.outCap.toNat < 3) ∧
      (3 + 6 ≤ (capped 9 s).params.outCap.toNat ∧ (capped 8 s).params.outCap.toNat < 3 + 6) := by
  unfold State.canLaunch State.inputIs; decide +kernel

/-- Vectors D14 to D18: both ends of the window range, a window that is no power of two, and each BadConfig. -/
theorem witness_CompressConfigurationIsChecked : State.reset.canLaunch ∧ 255 < 256 ∧ 32768 < 32769 ∧
    (257#17).toNat ≠ 2 ^ 8 ∧ 2 ^ 9 ≠ (257#17).toNat ∧ (2048#17).toNat = 2 ^ 11 ∧
    ({ State.reset with cfgDeflate := 3#4 } : State).btypeLimit = 3 ∧ (2#9).toNat < 3 ∧ 258 < (259#9).toNat := by
  unfold State.canLaunch; decide +kernel

/-- Vector F12: the lengths that a predefined FILTER needs; the fourth filter byte illegal, with room for exactly the three
lines before it, and with one byte less. -/
theorem witness_FilterCommandCompletes : let s := image 0x1404#13 5 3 (List.replicate 15 0)
    let s : State := { s with auxBuf := Memory.ofBytes 0 (by8 [0, 1, 2, 3, 4, 1, 2]), auxLen := 7#31 }
    let f := capped 6 { s with auxBuf := Memory.ofBytes 0 (by8 [0, 1, 2, 5, 4, 1, 2]) }
    s.canLaunch ∧ s.imageLegal ∧ s.strategy ≤ 4 ∧ s.inputIs (by8 (List.replicate 15 0)) ∧ s.inLen.toNat = s.rawLen ∧
      s.filtLen ≤ s.params.outCap.toNat ∧ s.effectiveStrategy = 4 ∧ s.auxLen.toNat = s.lineCount ∧
      (∀ i, i < s.lineCount → (s.auxBuf.read i).any (fun b => decide (b.toNat ≤ 4)) = true) ∧
      f.canLaunch ∧ f.imageLegal ∧ f.inputIs (by8 (List.replicate 15 0)) ∧ 3 < f.lineCount ∧
      (∀ i, i < 3 → (f.auxBuf.read i).any (fun b => decide (b.toNat ≤ 4)) = true) ∧
      f.auxBuf.read 3 = some 5#8 ∧ 4 < (5#8).toNat ∧
      bytesOfFirst 3 (f.passScanlines f.usedPasses (by8 (List.replicate 15 0))) ≤ f.params.outCap.toNat ∧
      (capped 5 f).params.outCap.toNat < bytesOfFirst 3 (f.passScanlines f.usedPasses (by8 (List.replicate 15 0))) := by
  unfold State.canLaunch State.imageLegal State.inputIs; decide +kernel

theorem witness_UnfilterCommandStarts : let s := image 0x401#13 1 1 [5, 0]
    s.canLaunch ∧ s.imageLegal ∧ s.inLen.toNat = s.filtLen := by
  unfold State.canLaunch State.imageLegal; decide +kernel

/-- Vectors F15 to F21, one state for each check. -/
theorem witness_ImageConfigurationIsChecked : State.reset.canLaunch ∧ (image 0x419#13 1 1 []).colorType ∉ [0, 2, 3, 4, 6] ∧
    ((image 0x1a9#13 1 1 []).colorType ∈ [0, 2, 3, 4, 6] ∧ (image 0x1a9#13 1 1 []).bitDepth ∉ [1, 2, 4, 8, 16]) ∧
    ((image 0x839#13 1 1 []).colorType = 3 ∧ (image 0x839#13 1 1 []).bitDepth = 16) ∧
    ((image 0x229#13 1 1 []).colorType ∈ [2, 4, 6] ∧ (image 0x229#13 1 1 []).bitDepth ∈ [1, 2, 4]) ∧
    ((image 0x401#13 0 1 []).colorType ∈ [0, 2, 3, 4, 6] ∧ (image 0x401#13 0 1 []).bitDepth = 8 ∧
      (image 0x401#13 0 1 []).width = 0#31) ∧
    ((image 0x405#13 1 1 []).imageLegal ∧ 5 ≤ (image 0x405#13 1 1 []).strategy) ∧
    ((image 0x401#13 1 1 []).imageLegal ∧ (image 0x401#13 1 1 []).strategy ≤ 4 ∧
      (image 0x401#13 1 1 []).inLen.toNat ≠ (image 0x401#13 1 1 []).rawLen ∧
      (image 0x401#13 1 1 []).inLen.toNat ≠ (image 0x401#13 1 1 []).filtLen) ∧
    ((image 0x404#13 1 1 []).effectiveStrategy = 4 ∧ (image 0x404#13 1 1 []).auxLen.toNat ≠ (image 0x404#13 1 1 []).lineCount) := by
  unfold State.canLaunch State.imageLegal; decide +kernel

theorem witness_IllegalCommandsEndWithBadCommand : (∀ w ∈ reservedWords, w.2.format = .cmdw ∧ w.2.value ∉ opcodes) ∧
    (6#32).toNat ∉ opcodes := by decide +kernel

/-- A length one beyond the capacity. -/
theorem witness_CommandsAreAcceptedOnlyWhenLaunchable : let s := reading 0 [1]
    let t : State := { s with params := { s.params with inCap := 0#31 } }
    let u : State := { State.reset with auxLen := 1#31, params := { State.reset.params with auxCap := 0#31 } }
    Instr.nop.format = .cmdw ∧ (running []).isBusy = true ∧ t.isBusy = false ∧ t.params.inCap.toNat < t.inLen.toNat ∧
      u.params.auxCap.toNat < u.auxLen.toNat := by decide +kernel

theorem witness_NothingChangesTheHostSide : ∃ t, exec .eob (running []) = .next t := ⟨_, rfl⟩

theorem witness_ChecksumsAreWrittenOnlyByTheirCommands : ∃ t, exec .adlerInit State.reset = .next t ∧
    (Instr.adlerInit ≠ .crcInit ∧ Instr.adlerInit ≠ .crcUpdate) := ⟨_, rfl, by decide⟩

/-- A running block meets the invariant. -/
theorem running_inv (l : List HostOp) : (running l).Inv where
  inWf := rfl
  auxWf := rfl
  outCells := rfl
  outFits := Nat.zero_le _
  adlerReduced := by show 1 < 65521 ∧ 0 < 65521; decide
  cursor := Nat.zero_le _
  errorPair := rfl
  idleClean := nofun
  doneClean := nofun
  errorClean := nofun
  neverRaised := ⟨nofun, nofun⟩
  infoOnlyInspect := fun h => absurd rfl h
  phase := fun p h => by
    cases h
    exact ⟨by show 0 + 2 ≤ 2; decide, fun h => absurd rfl h⟩

theorem witness_EveryStepKeepsTheInvariant : (running []).Inv ∧ ∃ t, step (running []) = .next t := ⟨running_inv [], _, rfl⟩

theorem witness_EngineNeverStops : (running []).Inv ∧ (running []).host = [] ∧
    ∀ a, a < (running []).inLen.toNat → ((running []).inBuf.read a).isSome = true := ⟨running_inv [], rfl, by decide⟩

theorem witness_EveryCommandTerminates : (running []).Inv ∧ (running []).isBusy = true ∧
    ∀ a, a < (running []).inLen.toNat → ((running []).inBuf.read a).isSome = true := ⟨running_inv [], rfl, by decide⟩

end Sys2Proof.Tests
end

section

namespace Sys2Proof.Machine

/-! ### The host's action of a step -/

/-- Any action but a poll is taken off the host's list and done. -/
theorem step_of_hostOp {op : HostOp} {rest : List HostOp} {s : State} (h : s.host = op :: rest) (hop : op ≠ .poll) :
    step s = hostStep op (s.setHost rest) := by
  unfold step stepWithHost
  rw [h]
  cases op with
  | poll => exact absurd rfl hop
  | writeReg | readReg | writeIn | writeAux | readOut | tick | reset => rfl

/-- A poll while a command runs lets the engine act and stays on the host's list (R340 item 3). -/
theorem step_of_poll_busy {rest : List HostOp} {s : State} (h : s.host = .poll :: rest) (hb : s.isBusy = true) :
    step s = idleOrEngine s := by
  unfold step stepWithHost
  simp only [h, hb, if_true]

/-- With no action of the host left, the engine acts. -/
theorem step_of_host_nil {s : State} (h : s.host = []) : step s = idleOrEngine s := by
  unfold step stepWithHost
  rw [h]

/-- A tick lets the engine act. -/
theorem step_of_tick {rest : List HostOp} {s : State} (h : s.host = .tick :: rest) :
    step s = idleOrEngine (s.setHost rest) := step_of_hostOp h nofun

/-- In the three situations in which the engine acts while a command runs, a step is one element of the stream. -/
theorem step_eq_engineStep {s u : State} {p : Phase} (hp : s.run = .busy p)
    (hu : (s.host = [] ∧ u = s) ∨ (∃ rest, s.host = .poll :: rest ∧ u = s) ∨
      (∃ rest, s.host = .tick :: rest ∧ u = s.setHost rest)) : step s = engineStep p u := by
  obtain ⟨hh, rfl⟩ | ⟨rest, hh, rfl⟩ | ⟨rest, hh, rfl⟩ := hu
  · rw [step_of_host_nil hh, idleOrEngine_of_busy hp]
  · rw [step_of_poll_busy hh ((State.isBusy_iff _).mpr ⟨p, hp⟩), idleOrEngine_of_busy hp]
  · rw [step_of_tick hh, idleOrEngine_of_busy (by simpa using hp)]

/-! ### The register map -/

@[simp] theorem State.readReg_setHost (s : State) (l : List HostOp) (off : Nat) :
    (s.setHost l).readReg off = s.readReg off := rfl

/-- Storing the low `n` bits of a word and reading them back zero-extended masks the word. -/
theorem setWidth_extractLsb'_zero (v : Word) (n : Nat) :
    (v.extractLsb' 0 n).setWidth 32 = v &&& (BitVec.allOnes n).setWidth 32 := by
  ext i hi
  simp [Bool.and_comm, BitVec.getLsbD_eq_getElem hi]

/-- The offsets of the read-write registers (R28 to R36). -/
def rwOffsets : List Nat := [0x10, 0x18, 0x20, 0x24, 0x28, 0x2C, 0x30, 0x34, 0x38, 0x3C]

theorem mem_rwOffsets {off : Nat} : off ∈ rwOffsets ↔ off = 0x10 ∨ off = 0x18 ∨ off = 0x20 ∨ off = 0x24 ∨ off = 0x28 ∨
    off = 0x2C ∨ off = 0x30 ∨ off = 0x34 ∨ off = 0x38 ∨ off = 0x3C := by
  simp [rwOffsets]

/-- A register stores bits exactly when it is read-write. -/
theorem implementedBits_ne_zero_iff {off : Nat} : implementedBits off ≠ 0#32 ↔ off ∈ rwOffsets := by
  constructor
  · intro h
    contrapose! h
    simp only [mem_rwOffsets, not_or] at h
    simp [implementedBits, h]
  · revert off
    decide

/-- A read-only register and a reserved offset ignore a write (R39). -/
theorem State.writeReg_of_not_mem (s : State) (v : Word) {off : Nat} (h : off ∉ rwOffsets) : s.writeReg off v = s := by
  simp only [mem_rwOffsets, not_or] at h
  simp [State.writeReg, h]

/-- A register written while no command runs reads the implemented bits of the word. -/
theorem State.readReg_writeReg_same {s : State} {off : Nat} (v : Word) (hs : s.isBusy = false)
    (h : off ∈ rwOffsets) : (s.writeReg off v).readReg off = v &&& implementedBits off := by
  obtain rfl | rfl | rfl | rfl | rfl | rfl | rfl | rfl | rfl | rfl := mem_rwOffsets.mp h <;>
    simp [State.writeReg, State.readReg, hs, implementedBits, setWidth_extractLsb'_zero]

/-- A register write leaves every other register alone. -/
theorem State.readReg_writeReg_other {s : State} {off off' : Nat} (v : Word) (hs : s.isBusy = false) (h : off' ≠ off) :
    (s.writeReg off v).readReg off' = s.readReg off' := by
  by_cases hm : off ∈ rwOffsets
  · obtain rfl | rfl | rfl | rfl | rfl | rfl | rfl | rfl | rfl | rfl := mem_rwOffsets.mp hm <;>
      · simp only [State.writeReg, State.readReg, hs, h, Nat.reduceEqDiff, if_true, if_false, Bool.false_eq_true]
        rfl
  · rw [s.writeReg_of_not_mem v hm]

/-- What every offset reads after a register write while no command runs (R28 to R36, R39). -/
theorem State.readReg_writeReg {s : State} (off off' : Nat) (v : Word) (hs : s.isBusy = false) :
    (s.writeReg off v).readReg off' =
      if off' = off ∧ implementedBits off ≠ 0#32 then v &&& implementedBits off else s.readReg off' := by
  by_cases ho : off' = off
  · subst ho
    by_cases hm : off' ∈ rwOffsets
    · rw [if_pos ⟨rfl, implementedBits_ne_zero_iff.mpr hm⟩, State.readReg_writeReg_same v hs hm]
    · rw [if_neg fun h => hm (implementedBits_ne_zero_iff.mp h.2), s.writeReg_of_not_mem v hm]
  · rw [if_neg fun h => ho h.1, State.readReg_writeReg_other v hs ho]

/-- A register write changes nothing but the read-write registers. -/
theorem State.writeReg_frame (s : State) (off : Nat) (v : Word) :
    s.writeReg off v = { s with
      inLen := (s.writeReg off v).inLen, auxLen := (s.writeReg off v).auxLen
      cfgInflate := (s.writeReg off v).cfgInflate, cfgDeflate := (s.writeReg off v).cfgDeflate
      windowSize := (s.writeReg off v).windowSize, minMatch := (s.writeReg off v).minMatch
      niceMatch := (s.writeReg off v).niceMatch, cfgFilter := (s.writeReg off v).cfgFilter
      width := (s.writeReg off v).width, height := (s.writeReg off v).height } := by
  by_cases hm : off ∈ rwOffsets
  · obtain rfl | rfl | rfl | rfl | rfl | rfl | rfl | rfl | rfl | rfl := mem_rwOffsets.mp hm <;>
      · simp only [State.writeReg, Nat.reduceEqDiff, if_true, if_false]
        split <;> rfl
  · rw [s.writeReg_of_not_mem v hm]

/-- With no command running a result register reads its value. -/
theorem State.resultWord_of_not_busy {s : State} (hs : s.isBusy = false) (v : Word) : s.resultWord v = v := by
  simp [State.resultWord, hs]

@[simp] theorem hostReset_isBusy (s : State) : (hostReset s).isBusy = false := rfl

/-- A hardware reset puts every register at its reset value. -/
theorem readReg_hostReset (s : State) (off : Nat) : (hostReset s).readReg off = State.reset.readReg off := by
  simp only [State.readReg, State.resultWord_of_not_busy (hostReset_isBusy s),
    State.resultWord_of_not_busy (s := State.reset) rfl]
  rfl

/-- What every offset reads after reset (R53). -/
theorem readReg_reset (off : Nat) : State.reset.readReg off =
    if off = 0x24 then 0x0000000E#32
    else if off = 0x28 then 2048#32
    else if off = 0x2C then 3#32
    else if off = 0x30 then 128#32
    else if off = 0x34 then 0x00000469#32
    else if off = 0x40 then 0xFFFFFFFF#32
    else if off = 0x48 then 1#32
    else 0#32 := by
  by_cases h : off ∈ [0x24, 0x28, 0x2C, 0x30, 0x34, 0x40, 0x48]
  · revert off
    decide
  · simp only [List.mem_cons, List.not_mem_nil, or_false, not_or] at h
    simp only [h, if_false, State.readReg]
    split_ifs <;> rfl

/-! ### The host's accesses -/

/-- A read of a register with no command running draws nothing. -/
theorem hostReadReg_of_not_busy {s : State} (off : Nat) (hs : s.isBusy = false) :
    hostReadReg off s = { s with hostData := s.readReg off } := by
  simp [hostReadReg, hs]

/-- A read of a register latches its value (R29). -/
@[simp] theorem hostReadReg_hostData (off : Nat) (s : State) : (hostReadReg off s).hostData = s.readReg off := by
  unfold hostReadReg
  split <;> rfl

/-- A read of a register changes nothing of the block: the word last read, and perhaps the count of free values. -/
theorem hostReadReg_frame (off : Nat) (s : State) :
    hostReadReg off s =
      { s with hostData := (hostReadReg off s).hostData, freeCtr := (hostReadReg off s).freeCtr } := by
  unfold hostReadReg
  split <;> rfl

/-- A write to IN below the capacity and with no command running stores the byte. -/
theorem hostWriteIn_of_not_busy {s : State} {i : Nat} (b : Byte) (hi : i < s.params.inCap.toNat)
    (hs : s.isBusy = false) : hostWriteIn i b s = .next { s with inBuf := s.inBuf.write i b } := by
  simp [hostWriteIn, hs, Nat.not_le.mpr hi]

/-- A write to IN while a command runs is refused (log entry 19). -/
theorem hostWriteIn_of_busy {s : State} {i : Nat} (b : Byte) (hi : i < s.params.inCap.toNat)
    (hs : s.isBusy = true) : hostWriteIn i b s = .refused .hostRace := by
  simp [hostWriteIn, hs, Nat.not_le.mpr hi]

/-- A write to IN at or beyond the capacity faults (log entry 17). -/
theorem hostWriteIn_of_beyond {s : State} {i : Nat} (b : Byte) (hi : s.params.inCap.toNat ≤ i) :
    hostWriteIn i b s = .fault .noSuchByte := by
  simp [hostWriteIn, hi]

/-- A write to AUX below the capacity and with no command running stores the byte. -/
theorem hostWriteAux_of_not_busy {s : State} {i : Nat} (b : Byte) (hi : i < s.params.auxCap.toNat)
    (hs : s.isBusy = false) : hostWriteAux i b s = .next { s with auxBuf := s.auxBuf.write i b } := by
  simp [hostWriteAux, hs, Nat.not_le.mpr hi]

/-- A write to AUX while a command runs is refused (log entry 19). -/
theorem hostWriteAux_of_busy {s : State} {i : Nat} (b : Byte) (hi : i < s.params.auxCap.toNat)
    (hs : s.isBusy = true) : hostWriteAux i b s = .refused .hostRace := by
  simp [hostWriteAux, hs, Nat.not_le.mpr hi]

/-- A write to AUX at or beyond the capacity faults (log entry 17). -/
theorem hostWriteAux_of_beyond {s : State} {i : Nat} (b : Byte) (hi : s.params.auxCap.toNat ≤ i) :
    hostWriteAux i b s = .fault .noSuchByte := by
  simp [hostWriteAux, hi]

/-- A read of a valid byte of OUT with no command running latches it. -/
theorem hostReadOut_of_valid {s : State} {i : Nat} {b : Byte} (hs : s.isBusy = false)
    (hcap : i < s.params.outCap.toNat) (hlen : i < s.outLen.toNat) (hb : s.outBuf.read i = some b) :
    hostReadOut i s = .next { s with hostData := b.zeroExtend 32 } := by
  simp [hostReadOut, hs, Nat.not_le.mpr hcap, hlen, hb]

/-- A word written to CMD that decodes to an instruction runs it. -/
theorem writeCmd_of_decode {v : Word} {i : Instr} (s : State) (h : decode .cmdw v.toNat = some i) :
    writeCmd v s = exec i s := by
  unfold writeCmd
  rw [h]

end Sys2Proof.Machine
end

section
open Sys2Proof Sys2Proof.Machine

/-- Settles O2: a register read after a register write, and the frame of the write. -/
theorem registerWritesStoreImplementedBits : Obligations.RegisterWritesStoreImplementedBits := by
  intro s off v rest hhost hs hoff
  have hstep : step s = .next ((s.setHost rest).writeReg off v) := by
    rw [step_of_hostOp hhost nofun, hostStep, if_neg hoff]
  exact ⟨_, hstep, fun off' => State.readReg_writeReg off off' v hs, State.writeReg_frame (s.setHost rest) off v⟩

/-- Settles O5: the three outcomes of a write to IN and to AUX, and the read of a valid byte of OUT. -/
theorem hostAccessesBuffers : Obligations.HostAccessesBuffers := by
  intro s i b rest
  refine ⟨fun hhost => ?_, fun hhost => ?_, fun hhost hs hcap hlen hb => ?_⟩
  · have hstep : step s = hostWriteIn i b (s.setHost rest) := step_of_hostOp hhost nofun
    rw [hstep]
    exact ⟨fun hi hs => ⟨_, hostWriteIn_of_not_busy b hi hs, rfl, Memory.read_write_same _ _ _,
        fun a ha => Memory.read_write_other _ _ _ _ ha⟩,
      fun hi hs => hostWriteIn_of_busy b hi hs, fun hi => hostWriteIn_of_beyond b hi⟩
  · have hstep : step s = hostWriteAux i b (s.setHost rest) := step_of_hostOp hhost nofun
    rw [hstep]
    exact ⟨fun hi hs => ⟨_, hostWriteAux_of_not_busy b hi hs, rfl, Memory.read_write_same _ _ _,
        fun a ha => Memory.read_write_other _ _ _ _ ha⟩,
      fun hi hs => hostWriteAux_of_busy b hi hs, fun hi => hostWriteAux_of_beyond b hi⟩
  · have hstep : step s = hostReadOut i (s.setHost rest) := step_of_hostOp hhost nofun
    rw [hstep]
    exact hostReadOut_of_valid hs hcap hlen hb

/-- Settles O1: the registers of the reset state, and that a hardware reset reads as that state does. -/
theorem resetRegisters : Obligations.ResetRegisters :=
  ⟨readReg_reset, fun s rest hhost =>
    ⟨hostReset (s.setHost rest), step_of_hostOp hhost nofun, rfl, readReg_hostReset _, rfl, rfl⟩⟩

/-- Settles O4: what a register read latches, busy or not; STATUS is the register at offset 4 and is no result register. -/
theorem hostReadsRegisters : Obligations.HostReadsRegisters := by
  intro s off rest hhost
  have hstep : step s = .next (hostReadReg off (s.setHost rest)) := step_of_hostOp hhost nofun
  refine ⟨fun hs => ?_, _, hstep, hostReadReg_frame off (s.setHost rest), ?_⟩
  · rw [hstep]
    exact congrArg _ (hostReadReg_of_not_busy off hs)
  · rintro rfl
    exact hostReadReg_hostData 0x04 (s.setHost rest)

/-- Settles O6: whenever the engine acts a step is one stream element, whose fetch gives an instruction or raises. -/
theorem stepRunsTheFetchedElement : Obligations.StepRunsTheFetchedElement := by
  refine ⟨fun s u p hp hu => ?_, fun s hs hhost => ?_⟩
  · rw [step_eq_engineStep hp hu]
    exact ⟨fun v t i hv hd => engineStep_of_fetch hv hd, fun k t hv => engineStep_of_raise hv⟩
  · rw [step_of_host_nil hhost, idleOrEngine_of_idle hs]

/-- Settles O7: a write at offset 0 is a CMD write, which runs what the word decodes to. -/
theorem stepRunsTheCommand : Obligations.StepRunsTheCommand := by
  intro s v rest i hhost hd
  rw [step_of_hostOp hhost nofun, hostStep, if_pos rfl, writeCmd_of_decode _ hd]

/-- Settles O57: after reset nothing is listed or running, so every clause is about zeros and empty lists. -/
theorem invariantHoldsAtReset : Obligations.InvariantHoldsAtReset where
  inWf := rfl
  auxWf := rfl
  outCells := rfl
  outFits := Nat.zero_le _
  adlerReduced := by decide
  cursor := Nat.zero_le _
  errorPair := rfl
  idleClean := fun _ => ⟨rfl, rfl, rfl⟩
  doneClean := nofun
  errorClean := nofun
  neverRaised := ⟨nofun, nofun⟩
  infoOnlyInspect := fun h => absurd rfl h
  phase := nofun

end

section

/-! SUPPORT. Every step keeps the invariant. Inside a step STATE may lag behind, so the operations are shown to keep the
clauses that do not speak of STATE (`State.Consistent`); a raise, the end of a command and a hand-over to the next element
each turn those back into the invariant. -/

namespace Sys2Proof.Machine

/-! ### The clauses of the invariant that do not speak of STATE -/

/-- What holds inside a step as well as between steps: the invariant without its clauses on STATE. -/
structure State.Consistent (s : State) : Prop where
  inWf : s.inBuf.wf = true
  auxWf : s.auxBuf.wf = true
  outCells : s.outBuf.map Prod.fst = List.range s.outLen.toNat
  outFits : s.outLen.toNat ≤ s.params.outCap.toNat
  adlerReduced : s.adlerS1.toNat < Config.adlerMod ∧ s.adlerS2.toNat < Config.adlerMod
  cursor : s.work.rd.bitpos ≤ s.inputBits
  errorPair : s.errCode = (match s.errKind with | none => 0#32 | some k => errcodeOf k)
  neverRaised : s.errKind ≠ some .invalidPaeth ∧ s.errKind ≠ some .badCrc
  infoOnlyInspect : s.info ≠ [] → s.work.framing = .inspect

/-- The kinds some rule raises (R376, R377). -/
abbrev ErrKind.canBeRaised (k : ErrKind) : Prop := k ≠ .invalidPaeth ∧ k ≠ .badCrc

theorem State.Inv.consistent {s : State} (h : s.Inv) : s.Consistent := { h with }

section
variable {s : State}

/-- A raise ends the step in a state with the invariant (R380). -/
theorem State.Consistent.inv_raiseError {k : ErrKind} (h : s.Consistent) (hk : k.canBeRaised) :
    (raiseError k s).Inv where
  inWf := h.inWf
  auxWf := h.auxWf
  outCells := rfl
  outFits := Nat.zero_le _
  adlerReduced := h.adlerReduced
  cursor := h.cursor
  errorPair := rfl
  idleClean := nofun
  doneClean := nofun
  errorClean := fun _ => ⟨nofun, rfl, rfl⟩
  neverRaised := ⟨fun e => hk.1 (Option.some.inj e), fun e => hk.2 (Option.some.inj e)⟩
  infoOnlyInspect := fun e => absurd rfl e
  phase := nofun

/-- So does the end of a command without error (R341). -/
theorem State.Consistent.inv_complete (h : s.Consistent) : (complete s).Inv :=
  { h with
    errorPair := rfl
    idleClean := nofun
    doneClean := fun _ => rfl
    errorClean := nofun
    neverRaised := ⟨nofun, nofun⟩
    phase := nofun }

/-- So does a hand-over to the next element, when what its phase needs is set up. -/
theorem State.Consistent.inv_setRun_busy {p : Phase} (h : s.Consistent) (hp : s.phaseOk p) :
    (s.setRun (.busy p)).Inv :=
  { h with
    idleClean := nofun
    doneClean := nofun
    errorClean := nofun
    phase := fun q hq => by
      obtain rfl : p = q := by simpa using hq
      exact hp }

theorem State.Consistent.setBitpos {n : Nat} (h : s.Consistent) (hn : n ≤ s.inputBits) : (s.setBitpos n).Consistent :=
  { h with cursor := hn }

theorem State.Consistent.setRegs (h : s.Consistent) (r : Regs) : (s.setRegs r).Consistent := { h with }

theorem State.Consistent.setTabs (h : s.Consistent) (t : Tables) : (s.setTabs t).Consistent := { h with }

theorem State.Consistent.setLine (h : s.Consistent) (l : LineState) : (s.setLine l).Consistent := { h with }

theorem State.Consistent.setEnc (h : s.Consistent) (e : Encoder) : (s.setEnc e).Consistent := { h with }

theorem State.Consistent.setInsp (h : s.Consistent) (i : Inspect) : (s.setInsp i).Consistent := { h with }

theorem State.Consistent.setCrc (h : s.Consistent) (r : Word) : (s.setCrc r).Consistent := { h with }

theorem State.Consistent.setAdler {s1 s2 : BitVec 16} (h : s.Consistent)
    (hs : s1.toNat < Config.adlerMod ∧ s2.toNat < Config.adlerMod) : (s.setAdler s1 s2).Consistent :=
  { h with adlerReduced := hs }

theorem State.Consistent.setInfo {l : List BlockInfo} (h : s.Consistent) (hf : s.work.framing = .inspect) :
    (s.setInfo l).Consistent :=
  { h with infoOnlyInspect := fun _ => hf }

/-- The framing is chosen while INFO is still empty. -/
theorem State.Consistent.setFraming (f : Framing) (h : s.Consistent) (hi : s.info = []) :
    (s.setFraming f).Consistent :=
  { h with infoOnlyInspect := fun hne => absurd hi hne }

/-- The clean state a command's rule starts from (R52). -/
theorem State.Consistent.startCommand (h : s.Consistent) : (startCommand s).Consistent :=
  { h with
    outCells := rfl
    outFits := Nat.zero_le _
    cursor := Nat.zero_le _
    infoOnlyInspect := fun hne => absurd rfl hne }

end

/-! ### Operations that keep the state consistent -/

/-- The operation is safe: where it goes well `post` holds, and where it raises the state is consistent and the kind may
be raised. -/
inductive Res.Safe {α : Type} (post : α → State → Prop) : Res α → Prop where
  | ok {a : α} {s : State} (h : post a s) : Safe post (.ok a s)
  | raise {k : ErrKind} {s : State} (h : s.Consistent) (hk : k.canBeRaised) : Safe post (.raise k s)
  | refuse {r : Refusal} : Safe post (.refuse r)

theorem Res.Safe.bind {α β : Type} {x : Res α} {f : α → State → Res β} {p : α → State → Prop} {q : β → State → Prop}
    (hx : x.Safe p) (hf : ∀ a s, p a s → (f a s).Safe q) : (x.bind f).Safe q := by
  cases hx with
  | ok h => exact hf _ _ h
  | raise h hk => exact .raise h hk
  | refuse => exact .refuse

theorem Res.Safe.mono {α : Type} {x : Res α} {p q : α → State → Prop} (hx : x.Safe p) (hpq : ∀ a s, p a s → q a s) :
    x.Safe q := by
  cases hx with
  | ok h => exact .ok (hpq _ _ h)
  | raise h hk => exact .raise h hk
  | refuse => exact .refuse

/-- A step whose operation leaves the invariant where it went well leaves it in any case. -/
theorem Res.Safe.inv_of_finish {x : Res Unit} {t : State} (hx : x.Safe fun _ u => u.Inv) (h : x.finish = .next t) :
    t.Inv := by
  cases hx with
  | ok hu => exact Host.Outcome.next.inj h ▸ hu
  | raise hu hk => exact Host.Outcome.next.inj h ▸ hu.inv_raiseError hk
  | refuse => cases h

/-- The command's rule, on the clean state it starts from, is safe and ends in a state with the invariant. -/
def SafeRule (rule : State → Res Unit) : Prop :=
  ∀ s : State, s.Consistent → s.info = [] → (rule s).Safe fun _ t => t.Inv

/-! ### What an update leaves of an element's preconditions -/

@[simp] theorem State.readerOk_setBitpos (s : State) (n : Nat) : (s.setBitpos n).readerOk ↔ s.readerOk := Iff.rfl
@[simp] theorem State.readerOk_setRegs (s : State) (r : Regs) : (s.setRegs r).readerOk ↔ s.readerOk := Iff.rfl
@[simp] theorem State.readerOk_setTabs (s : State) (t : Tables) : (s.setTabs t).readerOk ↔ s.readerOk := Iff.rfl
@[simp] theorem State.readerOk_setInsp (s : State) (i : Inspect) : (s.setInsp i).readerOk ↔ s.readerOk := Iff.rfl
@[simp] theorem State.readerOk_setOut (s : State) (m : Memory) (n : BitVec 31) :
    (s.setOut m n).readerOk ↔ s.readerOk := Iff.rfl

@[simp] theorem State.tablesOk_setBitpos (s : State) (n : Nat) : (s.setBitpos n).tablesOk ↔ s.tablesOk := Iff.rfl
@[simp] theorem State.tablesOk_setRegs (s : State) (r : Regs) : (s.setRegs r).tablesOk ↔ s.tablesOk := Iff.rfl
@[simp] theorem State.tablesOk_setInsp (s : State) (i : Inspect) : (s.setInsp i).tablesOk ↔ s.tablesOk := Iff.rfl
@[simp] theorem State.tablesOk_setOut (s : State) (m : Memory) (n : BitVec 31) :
    (s.setOut m n).tablesOk ↔ s.tablesOk := Iff.rfl

section
variable {s : State}

/-! ### The bit reader -/

theorem readBits_safe (n : Nat) (h : s.Consistent) :
    (readBits n s).Safe fun v t => v < 2 ^ n ∧ t.Consistent ∧ ∃ p, t = s.setBitpos p := by
  cases hr : readBits n s with
  | ok v t =>
    obtain ⟨⟨hle, hv⟩, rfl⟩ := readBits_eq_ok hr
    exact .ok ⟨streamField_lt hv, h.setBitpos hle, _, rfl⟩
  | raise k t =>
    obtain ⟨rfl, rfl, -⟩ := readBits_eq_raise hr
    exact .raise h (by decide)
  | refuse r => exact .refuse

theorem decodeFrom_safe (T : HuffTable) (fuel n c : Nat) (h : s.Consistent) :
    (decodeFrom T fuel n c s).Safe fun _ t => t.Consistent ∧ ∃ p, t = s.setBitpos p := by
  induction fuel generalizing n c s with
  | zero => exact .raise h (by decide)
  | succ k ih =>
    refine (readBits_safe 1 h).bind ?_
    rintro b _ ⟨-, h1, p, rfl⟩
    split
    · exact .ok ⟨h1, p, rfl⟩
    · exact ih _ _ h1

theorem decodeSymbol_safe (T : HuffTable) (h : s.Consistent) :
    (decodeSymbol T s).Safe fun _ t => t.Consistent ∧ ∃ p, t = s.setBitpos p := decodeFrom_safe T _ 0 0 h

/-! ### Reading IN and OUT -/

theorem readIn_safe {k : ErrKind} (i : Nat) (hk : k.canBeRaised) (h : s.Consistent) :
    (readIn k i s).Safe fun _ t => t = s := by
  unfold readIn
  split
  · exact .raise h hk
  · split
    · exact .ok rfl
    · exact .refuse

theorem readInBytes_safe {k : ErrKind} (i n : Nat) (hk : k.canBeRaised) (h : s.Consistent) :
    (readInBytes k i n s).Safe fun bs t => t = s ∧ bs.length = n := by
  unfold readInBytes
  split
  · exact .raise h hk
  · split
    · rename_i bs hbs
      exact .ok ⟨rfl, Memory.bytes_length hbs⟩
    · exact .refuse

theorem readAllIn_safe (s : State) : (readAllIn s).Safe fun _ t => t = s := by
  unfold readAllIn
  split
  · exact .ok rfl
  · exact .refuse

theorem readAllOut_safe (s : State) : (readAllOut s).Safe fun _ t => t = s := by
  unfold readAllOut
  split
  · exact .ok rfl
  · exact .refuse

theorem readHistory_safe (dist : Nat) (s : State) : (readHistory dist s).Safe fun _ t => t = s := by
  unfold readHistory
  split
  · exact .ok rfl
  · exact .refuse

/-! ### Appending to OUT -/

/-- A write at the end of a buffer that lists the indices below `n` lists one more. -/
theorem Memory.keys_write_length {m : Memory} {n : Nat} (b : Byte) (h : m.map Prod.fst = List.range n) :
    (m.write n b).map Prod.fst = List.range (n + 1) := by
  simpa using Memory.keys_write_end m 0 n b (by simpa using h)

theorem appendOut_safe (b : Byte) (h : s.Consistent) :
    (appendOut b s).Safe fun _ t => t.Consistent ∧ ∃ m n, t = s.setOut m n := by
  by_cases hlt : s.outLen.toNat < s.params.outCap.toNat
  · rw [appendOut_of_room hlt]
    refine .ok ⟨{ h with outCells := ?_, outFits := ?_ }, _, _, rfl⟩
    · rw [State.setOut_outBuf, State.setOut_outLen, outLen_succ hlt]
      exact Memory.keys_write_length b h.outCells
    · rw [State.setOut_outLen, outLen_succ hlt]
      exact hlt
  · rw [appendOut_of_full (Nat.le_of_not_lt hlt)]
    exact .raise h (by decide)

theorem appendAll_safe (bs : List Byte) (h : s.Consistent) :
    (appendAll bs s).Safe fun _ t => t.Consistent ∧ ∃ m n, t = s.setOut m n := by
  induction bs generalizing s with
  | nil => exact .ok ⟨h, s.outBuf, s.outLen, rfl⟩
  | cons b rest ih =>
    refine (appendOut_safe b h).bind ?_
    rintro _ _ ⟨h1, m, n, rfl⟩
    exact ih h1

theorem copyStored_safe (n k : Nat) (h : s.Consistent) :
    (copyStored n k s).Safe fun _ t => t.Consistent ∧ ∃ m l, t = s.setOut m l := by
  induction n generalizing k s with
  | zero => exact .ok ⟨h, s.outBuf, s.outLen, rfl⟩
  | succ n ih =>
    unfold copyStored
    split
    · exact .refuse
    · rename_i b _
      refine (appendOut_safe b h).bind ?_
      rintro _ _ ⟨h1, m, l, rfl⟩
      exact ih _ h1

theorem copyMatch_safe (n dist : Nat) (h : s.Consistent) :
    (copyMatch n dist s).Safe fun _ t => t.Consistent ∧ ∃ m l, t = s.setOut m l := by
  induction n generalizing s with
  | zero => exact .ok ⟨h, s.outBuf, s.outLen, rfl⟩
  | succ n ih =>
    refine (readHistory_safe dist s).bind ?_
    rintro b _ rfl
    refine (appendOut_safe b h).bind ?_
    rintro _ _ ⟨h1, m, l, rfl⟩
    exact ih h1

/-! ### Blocks -/

/-- A stream begins at the start of an active input that lies inside IN (R210, R242). -/
theorem startInflate_inv {base size : Nat} (h : s.Consistent) (hin : base + size ≤ s.inLen.toNat)
    (hf : s.work.framing ≠ .raw → 6 ≤ s.inLen.toNat) : (startInflate base size s).Inv :=
  State.Consistent.inv_setRun_busy
    { h with outCells := rfl, outFits := Nat.zero_le _, cursor := Nat.zero_le _ } ⟨hin, hf⟩

/-- Recording an item touches the inspection state only. -/
theorem recordItem_eq (i : LzItem) (s : State) : ∃ insp, recordItem i s = s.setInsp insp := by
  unfold recordItem
  split
  · exact ⟨_, rfl⟩
  · exact ⟨s.work.insp, rfl⟩

/-- The end of a block hands over to the next header, the trailer or the host (R210, R240). -/
theorem endBlock_inv (h : s.Consistent) (hr : s.readerOk) : (endBlock s).Inv := by
  unfold endBlock
  extract_lets u
  have hu : u.Consistent ∧ u.readerOk := by
    by_cases hf : s.work.framing = .inspect
    · simp only [u, if_pos hf]
      exact ⟨h.setInfo hf, hr⟩
    · simp only [u, if_neg hf]
      exact ⟨h, hr⟩
  obtain ⟨hc, hin⟩ := hu
  split_ifs with _ hf
  · exact hc.inv_setRun_busy hin
  · exact hc.inv_complete
  · exact hc.inv_setRun_busy ⟨hf, hin.2 hf⟩

theorem storedBlock_safe (h : s.Consistent) (hr : s.readerOk) : (storedBlock s).Safe fun _ t => t.Inv := by
  have halign : 8 * ((s.work.rd.bitpos + 7) / 8) ≤ s.inputBits := by
    have := h.cursor
    simp only [State.inputBits] at this ⊢
    omega
  unfold storedBlock
  refine (readBits_safe 16 (h.setBitpos halign)).bind ?_
  rintro len _ ⟨-, h1, p1, rfl⟩
  refine (readBits_safe 16 (h1.setRegs _)).bind ?_
  rintro nlen _ ⟨-, h2, p2, rfl⟩
  dsimp only
  split_ifs with _ hend
  · exact .raise (h2.setRegs _) (by decide)
  · exact .raise (h2.setRegs _) (by decide)
  · refine (copyStored_safe len _ (h2.setRegs _)).bind ?_
    rintro _ _ ⟨h3, m, l, rfl⟩
    exact .ok (endBlock_inv (h3.setBitpos (Nat.le_of_not_lt hend)) (by simpa using hr))

/-! ### The code-length sequence -/

/-- Reading the header's lengths replaces entries of the list it fills. -/
theorem readClLengths_safe (order acc : List Nat) (h : s.Consistent) :
    (readClLengths order acc s).Safe fun lens t =>
      lens.length = acc.length ∧ t.Consistent ∧ ∃ p, t = s.setBitpos p := by
  induction order generalizing acc s with
  | nil => exact .ok ⟨rfl, h, s.work.rd.bitpos, rfl⟩
  | cons c rest ih =>
    refine (readBits_safe 3 h).bind ?_
    rintro v _ ⟨-, h1, p, rfl⟩
    simpa using ih (acc.set c v) h1

theorem dynHeader_safe (h : s.Consistent) (hr : s.readerOk) : (dynHeader s).Safe fun _ t => t.Inv := by
  unfold dynHeader
  refine (readBits_safe 5 h).bind ?_
  rintro a _ ⟨ha, h1, p1, rfl⟩
  refine (readBits_safe 5 (h1.setRegs _)).bind ?_
  rintro b _ ⟨hb, h2, p2, rfl⟩
  refine (readBits_safe 4 (h2.setRegs _)).bind ?_
  rintro c _ ⟨-, h3, p3, rfl⟩
  refine (readClLengths_safe _ _ (h3.setRegs _)).bind ?_
  rintro lens _ ⟨hlen, h4, p4, rfl⟩
  split
  · exact .raise h4 (by decide)
  · refine .ok ((h4.setTabs _).inv_setRun_busy ⟨by simpa using hr, ?_⟩)
    simp only [State.lengthsInProgress, State.lensWanted, State.setBitpos_work, State.setRegs_work, State.setTabs_work,
      BitVec.toNat_ofNat, Nat.reducePow, List.length_nil, Nat.zero_mod, add_pos_iff, buildCodes_len,
      buildCodes_code_length, hlen, List.length_replicate, and_self, and_true, true_and]
    omega

/-- The two tables of a finished sequence have the sizes of R44. -/
theorem buildTables_safe (h : s.Consistent) (hr : s.readerOk) (hlit : s.work.regs.hlit.toNat ≤ 288)
    (hdist : s.work.regs.hdist.toNat ≤ 32) : (buildTables s).Safe fun _ t => t.Inv := by
  have hll := padTo_length Config.numLL (s.work.tabs.lens.take s.work.regs.hlit.toNat)
    ((List.length_take_le _ _).trans hlit)
  have hd := padTo_length Config.numD ((s.work.tabs.lens.drop s.work.regs.hlit.toNat).take s.work.regs.hdist.toNat)
    ((List.length_take_le _ _).trans hdist)
  unfold buildTables
  extract_lets n ll d
  split_ifs
  · exact .raise h (by decide)
  · exact .raise h (by decide)
  · exact .raise h (by decide)
  · refine .ok (((h.setTabs _).setInsp _).inv_setRun_busy ⟨hr, hll, ?_, hd, ?_⟩)
    · exact (buildCodes_code_length _ _).trans hll
    · exact (buildCodes_code_length _ _).trans hd

/-- The code-length loop goes on, or builds the tables, with `n` lengths more that do not run past the sequence (R222). -/
theorem nextLength_putLengths_safe (v : Nat) {n : Nat} (h : s.Consistent) (hp : s.phaseOk .clsym)
    (hn : s.work.regs.cli.toNat + n ≤ s.lensWanted) : (nextLength (putLengths v n s)).Safe fun _ t => t.Inv := by
  obtain ⟨hr, hlit1, hlit2, hdist1, hdist2, hlens, hcli, hcl, hclc⟩ := hp
  have hput : (putLengths v n s).Consistent := (h.setTabs _).setRegs _
  unfold nextLength
  split
  · rename_i hlt
    refine .ok (hput.inv_setRun_busy ⟨hr, hlit1, hlit2, hdist1, hdist2, ?_, hlt, hcl, hclc⟩)
    simp only [State.lensWanted] at hn
    simp only [putLengths, hlens, State.setRegs_work, State.setTabs_work, List.length_append, List.length_take,
      List.length_replicate, min_self, BitVec.toNat_ofNat, Nat.reducePow]
    omega
  · exact buildTables_safe hput hr hlit2 hdist2

theorem repeatLengths_safe (v n : Nat) (h : s.Consistent) (hp : s.phaseOk .clsym) :
    (repeatLengths v n s).Safe fun _ t => t.Inv := by
  unfold repeatLengths
  split
  · exact .raise h (by decide)
  · exact nextLength_putLengths_safe v h hp (Nat.le_of_not_lt ‹_›)

/-- A repeat element: extra bits, then lengths. -/
theorem readBits_repeatLengths_safe (bits base : Nat) (v : State → Nat) (h : s.Consistent) (hp : s.phaseOk .clsym) :
    ((readBits bits s).bind fun e s => repeatLengths (v s) (base + e) s).Safe fun _ t => t.Inv := by
  refine (readBits_safe bits h).bind ?_
  rintro e _ ⟨-, h1, p, rfl⟩
  exact repeatLengths_safe _ _ h1 hp

/-! ### The symbol loop -/

theorem literal_safe (b : Byte) (h : s.Consistent) (hp : s.phaseOk .llsym) : (literal b s).Safe fun _ t => t.Inv := by
  refine (appendOut_safe b h).bind ?_
  rintro _ _ ⟨h1, m, n, rfl⟩
  obtain ⟨insp, he⟩ := recordItem_eq (.lit b) (s.setOut m n)
  exact .ok (he ▸ (h1.setInsp insp).inv_setRun_busy hp)

/-- Base and extra bits of a length symbol stay within the match lengths (R108). -/
theorem lbase_add_le {sym x : Nat} (h1 : 257 ≤ sym) (h2 : sym < 286) (hx : x < 2 ^ lextra sym) :
    3 ≤ lbase sym + x ∧ lbase sym + x ≤ 258 := by
  have hrows : ∀ i < 29, 3 ≤ lbase (257 + i) ∧ lbase (257 + i) + 2 ^ lextra (257 + i) ≤ 259 := by decide +kernel
  have := hrows (sym - 257) (by omega)
  rw [Nat.add_sub_cancel' h1] at this
  omega

theorem lengthSymbol_safe {sym : Nat} (h1 : 257 ≤ sym) (h2 : sym < 286) (h : s.Consistent) (hp : s.phaseOk .llsym) :
    (lengthSymbol sym s).Safe fun _ t => t.Inv := by
  obtain ⟨hr, ht⟩ := hp
  refine (readBits_safe _ h).bind ?_
  rintro x _ ⟨hx, h3, p, rfl⟩
  refine .ok ((h3.setRegs _).inv_setRun_busy ⟨hr, ht, ?_⟩)
  have := lbase_add_le h1 h2 hx
  simp only [State.setBitpos_work, State.setRegs_work, BitVec.toNat_ofNat, Nat.reducePow]
  omega

theorem distSymbol_safe (sym : Nat) (h : s.Consistent) (hp : s.phaseOk .dsym) :
    (distSymbol sym s).Safe fun _ t => t.Inv := by
  obtain ⟨hr, ht, -⟩ := hp
  refine (readBits_safe _ h).bind ?_
  rintro x _ ⟨-, h1, p, rfl⟩
  dsimp only
  split
  · exact .raise (h1.setRegs _) (by decide)
  · refine (copyMatch_safe _ _ (h1.setRegs _)).bind ?_
    rintro _ t ⟨h2, m, l, rfl⟩
    obtain ⟨insp, he⟩ := recordItem_eq (.copy _ _) (State.setOut _ m l)
    exact .ok (he ▸ (h2.setInsp insp).inv_setRun_busy ⟨by simpa using hr, by simpa using ht⟩)

/-! ### The zlib framing -/

theorem zlibHeader_safe (v : Nat) (h : s.Consistent) (hp : s.phaseOk .zhdr) :
    (zlibHeader v s).Safe fun _ t => t.Inv := by
  obtain ⟨-, h6⟩ := hp
  unfold zlibHeader
  split
  · exact .ok (startInflate_inv h (by omega) fun _ => h6)
  · exact .raise h (by decide)

theorem zlibTrailer_safe (a : Word) (h : s.Consistent) : (zlibTrailer a s).Safe fun _ t => t.Inv := by
  refine (readAllOut_safe s).bind ?_
  rintro out _ rfl
  dsimp only
  split
  · exact .raise (h.setRegs _) (by decide)
  · exact .ok (h.setRegs _).inv_complete

/-! ### Scanlines -/

theorem lineBytes_mono {bpp c w v : Nat} (hb : bpp ≤ c) (hw : w ≤ v) : lineBytes bpp w ≤ lineBytes c v :=
  Nat.div_le_div_right (Nat.add_le_add_right (Nat.mul_le_mul hw hb) 7)

theorem channels_le (colorType : Nat) : channels colorType ≤ 4 := by
  unfold channels
  split_ifs <;> decide

/-- A legal image has at most four channels of sixteen bits (R300, R322). -/
theorem State.bitsPerPixel_le {isFilter : Bool} (h : filterConfigError isFilter s = none) : s.bitsPerPixel ≤ 64 := by
  have hdepth : s.bitDepth ≤ 16 := by
    unfold filterConfigError at h
    split_ifs at h with _ hd
    omega
  exact Nat.mul_le_mul hdepth (channels_le _)

theorem subSize_le {size start step : Nat} (h : 1 ≤ step) : subSize size start step ≤ size := by
  unfold subSize
  rw [Nat.div_le_iff_le_mul_add_pred h]
  have := Nat.mul_le_mul_right size h
  omega

/-- No pass is wider than the image. -/
theorem State.dims_fst_le (s : State) (p : Nat) : (s.dims p).1 ≤ s.width.toNat := by
  have hstep : 1 ≤ passDX p := by
    unfold passDX
    rcases Nat.lt_or_ge p 8 with hp | hp
    · interval_cases p <;> decide
    · rw [List.getD_eq_default _ _ (by simpa using hp)]
  unfold State.dims passDims
  split_ifs
  · exact subSize_le hstep
  · exact Nat.le_refl _
  · exact Nat.zero_le _

/-- LINEBYTES has room for every pass of a legal image (R23, R300). -/
theorem State.passLine_lt {isFilter : Bool} (h : filterConfigError isFilter s = none) (p : Nat) :
    s.passLine p < 2 ^ 34 := by
  have hw : (s.dims p).1 ≤ 2 ^ 31 - 1 := (s.dims_fst_le p).trans (Nat.le_pred_of_lt s.width.isLt)
  exact (lineBytes_mono (State.bitsPerPixel_le h) hw).trans_lt (by decide)

/-- A pass UNFILTER works on has a number that PASS can hold, and rows. -/
theorem State.mem_usedPasses {p : Nat} (h : p ∈ s.usedPasses) : p < 8 ∧ 0 < (s.dims p).2 := by
  simp only [State.usedPasses, List.mem_filter, State.passUsed, Bool.and_eq_true, decide_eq_true_eq] at h
  obtain ⟨hp, -, hrows⟩ := h
  have hall : ∀ q ∈ passNumbers, q < 8 := by decide
  exact ⟨hall p hp, Nat.pos_of_ne_zero hrows⟩

theorem State.Consistent.beginPass (p : Nat) (h : s.Consistent) : (beginPass p s).Consistent :=
  (h.setRegs _).setLine _

/-- The first scanline of a pass comes next (R321). -/
theorem lineInProgress_beginPass {p : Nat} (hc : filterConfigError false s = none) (hp : p ∈ s.usedPasses) :
    (beginPass p s).lineInProgress := by
  obtain ⟨hp8, hrows⟩ := State.mem_usedPasses hp
  have hpass : (beginPass p s).work.regs.pass.toNat = p := Nat.mod_eq_of_lt hp8
  have hbw : byteWidth s.bitsPerPixel < 2 ^ 4 := by
    have := State.bitsPerPixel_le hc
    unfold byteWidth
    omega
  unfold State.lineInProgress
  rw [hpass]
  exact ⟨hc, hp, hrows, Nat.mod_eq_of_lt (State.passLine_lt hc p), Nat.mod_eq_of_lt hbw, List.length_replicate⟩

/-- After a scanline comes another one, or the command is done (R321). -/
theorem nextLine_inv (h : s.Consistent) (hl : s.lineInProgress) : (nextLine s).Inv := by
  obtain ⟨hc, hpass, hrow, hline, hbw, hprior⟩ := hl
  unfold nextLine
  dsimp only
  split
  · rename_i hlt
    refine (h.setRegs _).inv_setRun_busy ⟨hc, hpass, ?_, hline, hbw, hprior⟩
    refine Nat.lt_of_le_of_lt ?_ hlt
    exact Nat.mod_le (s.work.regs.row.toNat + 1) (2 ^ 31)
  · split
    · exact h.inv_complete
    · rename_i p rest hrest
      have hmem : p ∈ s.usedPasses := (List.mem_filter.mp (hrest ▸ List.mem_cons_self)).1
      exact (h.beginPass p).inv_setRun_busy (lineInProgress_beginPass hc hmem)

theorem unfilterRow_safe (f : Nat) (h : s.Consistent) (hp : s.phaseOk .scanline) :
    (unfilterRow f s).Safe fun _ t => t.Inv := by
  obtain ⟨hc, hpass, hrow, hline, hbw, -⟩ := hp
  refine (readInBytes_safe _ _ (by decide) h).bind ?_
  rintro out s ⟨rfl, hlen⟩
  dsimp only
  refine (appendAll_safe _ (h.setLine _)).bind ?_
  rintro _ _ ⟨h1, m, n, rfl⟩
  have hcur := (unfilterLine_length f s.work.regs.bytewidth.toNat out s.work.line.prior).trans (hlen.trans hline)
  exact .ok (nextLine_inv (h1.setLine _) ⟨hc, hpass, hrow, hline, hbw, hcur⟩)

theorem filterConfigError_canBeRaised {isFilter : Bool} {k : ErrKind} (h : filterConfigError isFilter s = some k) :
    k.canBeRaised := by
  unfold filterConfigError at h
  split_ifs at h <;> (obtain rfl := Option.some.inj h; decide)

theorem unfilterCommand_safe : SafeRule unfilterCommand := by
  intro s h _
  unfold unfilterCommand
  split
  · exact .raise h (filterConfigError_canBeRaised ‹_›)
  · rename_i hc
    split
    · split
      · exact .ok h.inv_complete
      · rename_i p rest hrest
        have hmem : p ∈ s.usedPasses := hrest ▸ List.mem_cons_self
        exact .ok (((h.setLine _).beginPass p).inv_setRun_busy (lineInProgress_beginPass hc hmem))
    · exact .raise h (by decide)

theorem predefinedFilter_safe (h : s.Consistent) : (predefinedFilter s).Safe fun _ t => t = s := by
  unfold predefinedFilter
  split
  · exact .refuse
  · split
    · exact .raise h (by decide)
    · exact .ok rfl

/-- A choice of the filter type changes nothing. -/
theorem chooseFilter_safe (h : s.Consistent) : (chooseFilter s).Safe fun _ t => t = s := by
  unfold chooseFilter
  dsimp only
  split_ifs
  · exact .ok rfl
  · exact .ok rfl
  · exact .ok rfl
  · exact .ok rfl
  · exact predefinedFilter_safe h

theorem filterRow_safe (h : s.Consistent) : (filterRow s).Safe fun _ t => t.Consistent := by
  refine (readInBytes_safe _ _ (by decide) h).bind ?_
  rintro cur _ ⟨rfl, -⟩
  dsimp only
  refine (chooseFilter_safe (h.setLine _)).bind ?_
  rintro f _ rfl
  refine (appendAll_safe _ ((h.setLine _).setRegs _)).bind ?_
  rintro _ _ ⟨h1, m, n, rfl⟩
  exact .ok (h1.setLine _)

theorem filterRows_safe (n row : Nat) (h : s.Consistent) : (filterRows n row s).Safe fun _ t => t.Consistent := by
  induction n generalizing row s with
  | zero => exact .ok h
  | succ k ih => exact (filterRow_safe (h.setRegs _)).bind fun _ _ h1 => ih _ h1

theorem filterPasses_safe (ps : List Nat) (h : s.Consistent) : (filterPasses ps s).Safe fun _ t => t.Consistent := by
  induction ps generalizing s with
  | nil => exact .ok h
  | cons p rest ih => exact (filterRows_safe _ _ (h.beginPass p)).bind fun _ _ h1 => ih h1

theorem filterCommand_safe : SafeRule filterCommand := by
  intro s h _
  unfold filterCommand
  split
  · exact .raise h (filterConfigError_canBeRaised ‹_›)
  · split
    · exact (filterPasses_safe _ (h.setLine _)).bind fun _ _ h1 => .ok h1.inv_complete
    · exact .raise h (by decide)

/-! ### Compression -/

theorem deflateConfigError_canBeRaised {k : ErrKind} (h : deflateConfigError s = some k) : k.canBeRaised := by
  unfold deflateConfigError at h
  dsimp only at h
  split_ifs at h <;> (obtain rfl := Option.some.inj h; decide)

theorem deflateBody_safe (data : List Byte) (h : s.Consistent) :
    (deflateBody data s).Safe fun _ t => t.Consistent :=
  (appendAll_safe _ (h.setEnc _)).mono fun _ _ ⟨h1, _⟩ => h1

theorem deflateCommand_safe : SafeRule deflateCommand := by
  intro s h _
  unfold deflateCommand
  split
  · exact .raise h (deflateConfigError_canBeRaised ‹_›)
  · refine (readAllIn_safe s).bind ?_
    rintro data _ rfl
    exact (deflateBody_safe data h).bind fun _ _ h1 => .ok h1.inv_complete

theorem zlibCompressCommand_safe : SafeRule zlibCompressCommand := by
  intro s h _
  unfold zlibCompressCommand
  split
  · exact .raise h (deflateConfigError_canBeRaised ‹_›)
  · refine (readAllIn_safe s).bind ?_
    rintro data _ rfl
    refine (appendAll_safe _ h).bind fun _ _ ⟨h1, _⟩ => ?_
    refine (deflateBody_safe data h1).bind fun _ _ h2 => ?_
    exact (appendAll_safe _ (h2.setRegs _)).bind fun _ _ ⟨h3, _⟩ => .ok h3.inv_complete

/-! ### Checksums -/

/-- Reduced sums stay reduced (R146). -/
theorem adlerRun_lt {s1 s2 : Nat} (bs : List Byte) (h1 : s1 < Config.adlerMod) (h2 : s2 < Config.adlerMod) :
    (adlerRun s1 s2 bs).1 < Config.adlerMod ∧ (adlerRun s1 s2 bs).2 < Config.adlerMod := by
  induction bs generalizing s1 s2 with
  | nil => exact ⟨h1, h2⟩
  | cons b rest ih => exact ih (Nat.mod_lt _ (by decide)) (Nat.mod_lt _ (by decide))

/-- Both halves of an updated Adler-32 value are reduced when the halves before were. -/
theorem adlerUpdate_reduced {s1 s2 : BitVec 16} (bs : List Byte) (h1 : s1.toNat < Config.adlerMod)
    (h2 : s2.toNat < Config.adlerMod) :
    ((adlerUpdate (s2 ++ s1) bs).extractLsb' 0 16).toNat < Config.adlerMod ∧
      ((adlerUpdate (s2 ++ s1) bs).extractLsb' 16 16).toNat < Config.adlerMod := by
  have hlow (a b : BitVec 16) : (a ++ b).extractLsb' 0 16 = b := BitVec.extractLsb'_append_eq_right
  have hhigh (a b : BitVec 16) : (a ++ b).extractLsb' 16 16 = a := BitVec.extractLsb'_append_eq_left
  obtain ⟨hr1, hr2⟩ := adlerRun_lt bs h1 h2
  simp only [adlerUpdate, hlow, hhigh, BitVec.toNat_ofNat]
  exact ⟨(Nat.mod_le _ _).trans_lt hr1, (Nat.mod_le _ _).trans_lt hr2⟩

end

/-! ### Commands -/

theorem inflateCommand_safe : SafeRule inflateCommand := fun s h hi =>
  .ok (startInflate_inv (h.setFraming .raw hi) (by simp) fun hf => absurd rfl hf)

theorem zlibCommand_safe {f : Framing} (hf : f ≠ .raw) : SafeRule (zlibCommand f) := by
  intro s h hi
  unfold zlibCommand
  split
  · exact .raise (h.setFraming f hi) (by decide)
  · exact .ok ((h.setFraming f hi).inv_setRun_busy ⟨hf, Nat.le_of_not_lt ‹_›⟩)

theorem crcCommand_safe : SafeRule crcCommand := by
  intro s h _
  refine (readAllIn_safe s).bind ?_
  rintro bs _ rfl
  exact .ok (h.setCrc _).inv_complete

theorem adlerCommand_safe : SafeRule adlerCommand := by
  intro s h _
  refine (readAllIn_safe s).bind ?_
  rintro bs _ rfl
  exact .ok (h.setAdler (adlerUpdate_reduced bs h.adlerReduced.1 h.adlerReduced.2)).inv_complete

theorem nop_safe : SafeRule fun s => .ok () (complete s) := fun _ h _ => .ok h.inv_complete

theorem crcInit_safe : SafeRule fun s => .ok () (complete (s.setCrc 0xFFFFFFFF#32)) := fun _ h _ =>
  .ok (h.setCrc _).inv_complete

theorem adlerInit_safe : SafeRule fun s => .ok () (complete (s.setAdler 1#16 0#16)) := fun _ h _ =>
  .ok (h.setAdler (by decide)).inv_complete

theorem badCommand_safe : SafeRule badCommand := fun _ h _ => .raise h (by decide)

/-- What holds of a row's instruction, and of what the rows below decode to, holds of what the rows together decode
to. -/
theorem of_decoded_row {P : Instr → Prop} {c : Prop} [Decidable c] {a i : Instr} {x : Option Instr}
    (h : (if c then some a else x) = some i) (ha : P a) (hx : x = some i → P i) : P i := by
  by_cases hc : c
  · rw [if_pos hc] at h
    exact Option.some.inj h ▸ ha
  · rw [if_neg hc] at h
    exact hx h

/-- A value that decodes passed the decoder's domain check. -/
theorem decoded_of_domain {c : Prop} [Decidable c] {i : Instr} {x : Option Instr}
    (h : (if c then none else x) = some i) : x = some i := by
  by_cases hc : c
  · rw [if_pos hc] at h
    cases h
  · rwa [if_neg hc] at h

/-- A command word with a reserved bit set is a bad command (R342). -/
theorem exec_of_decodeCmdReserved {v : Nat} {i : Instr} (h : decodeCmdReserved v = some i) (s : State) :
    exec i s = onCommand badCommand s := by
  unfold decodeCmdReserved at h
  iterate 24 refine of_decoded_row (P := fun i => exec i s = onCommand badCommand s) h rfl fun h => ?_
  cases h

/-- The command's meaning is the CMD write of a rule that is safe. -/
def SafeCommand (i : Instr) : Prop := ∃ rule, SafeRule rule ∧ ∀ s, exec i s = onCommand rule s

/-- A row of the opcode map, above rows that decode to safe commands. -/
theorem safeCommand_row {c : Prop} [Decidable c] {a i : Instr} {x : Option Instr} {rule : State → Res Unit}
    (h : (if c then some a else x) = some i) (hr : SafeRule rule) (he : ∀ s, exec a s = onCommand rule s)
    (hx : x = some i → SafeCommand i) : SafeCommand i :=
  of_decoded_row h ⟨rule, hr, he⟩ hx

theorem safeCommand_of_decodeOpcode {v : Nat} {i : Instr} (h : decodeOpcode v = some i) : SafeCommand i := by
  unfold decodeOpcode at h
  replace h := decoded_of_domain h
  iterate 6 refine safeCommand_row h badCommand_safe (fun _ => rfl) fun h => ?_
  refine safeCommand_row h unfilterCommand_safe (fun _ => rfl) fun h => ?_
  refine safeCommand_row h filterCommand_safe (fun _ => rfl) fun h => ?_
  refine safeCommand_row h badCommand_safe (fun _ => rfl) fun h => ?_
  refine safeCommand_row h adlerCommand_safe (fun _ => rfl) fun h => ?_
  refine safeCommand_row h adlerInit_safe (fun _ => rfl) fun h => ?_
  refine safeCommand_row h crcCommand_safe (fun _ => rfl) fun h => ?_
  refine safeCommand_row h crcInit_safe (fun _ => rfl) fun h => ?_
  refine safeCommand_row h badCommand_safe (fun _ => rfl) fun h => ?_
  refine safeCommand_row h zlibCompressCommand_safe (fun _ => rfl) fun h => ?_
  refine safeCommand_row h deflateCommand_safe (fun _ => rfl) fun h => ?_
  refine safeCommand_row h (zlibCommand_safe (f := .inspect) (by decide)) (fun _ => rfl) fun h => ?_
  refine safeCommand_row h (zlibCommand_safe (f := .zlib) (by decide)) (fun _ => rfl) fun h => ?_
  refine safeCommand_row h inflateCommand_safe (fun _ => rfl) fun h => ?_
  obtain rfl := Option.some.inj h
  exact ⟨_, nop_safe, fun _ => rfl⟩

theorem safeCommand_of_decodeCmdw {v : Nat} {i : Instr} (h : decodeCmdw v = some i) : SafeCommand i := by
  unfold decodeCmdw at h
  split_ifs at h
  · exact ⟨_, badCommand_safe, exec_of_decodeCmdReserved h⟩
  · exact safeCommand_of_decodeOpcode h

/-- A CMD write that gives a next state was ignored, or its rule ran on the clean state. -/
theorem onCommand_eq_next {rule : State → Res Unit} {s t : State} (h : onCommand rule s = .next t) :
    t = s ∨ (rule (startCommand s)).finish = .next t := by
  unfold onCommand at h
  split_ifs at h
  · exact .inl (Host.Outcome.next.inj h).symm
  · exact .inr h

theorem writeCmd_inv {v : Word} {s t : State} (h : s.Inv) (ht : writeCmd v s = .next t) : t.Inv := by
  unfold writeCmd at ht
  split at ht
  · rename_i i hd
    obtain ⟨rule, hrule, hexec⟩ := safeCommand_of_decodeCmdw hd
    obtain rfl | hfin := onCommand_eq_next (hexec s ▸ ht)
    · exact h
    · exact (hrule _ h.consistent.startCommand rfl).inv_of_finish hfin
  · cases ht

/-! ### The engine's element -/

/-- The element's meaning leaves the invariant, whatever its value selects. -/
def SafeElement (i : Instr) (s : State) : Prop := ∀ t, exec i s = .next t → t.Inv

/-- The meaning of an element is a safe operation. -/
theorem safeElement_of_finish {i : Instr} {s : State} {x : Res Unit} (he : exec i s = x.finish)
    (hx : x.Safe fun _ t => t.Inv) : SafeElement i s :=
  fun _ ht => hx.inv_of_finish (he ▸ ht)

/-- The meaning of an element is one next state. -/
theorem safeElement_of_next {i : Instr} {s u : State} (he : exec i s = .next u) (hu : u.Inv) : SafeElement i s :=
  fun _ ht => Host.Outcome.next.inj (he ▸ ht) ▸ hu

section
variable {s : State} {v : Nat} {i : Instr}

theorem safeElement_zhdr (h : s.Consistent) (hp : s.phaseOk .zhdr) (hd : decodeZhdr v = some i) : SafeElement i s := by
  unfold decodeZhdr at hd
  dsimp only at hd
  split_ifs at hd <;> (obtain rfl := Option.some.inj hd; exact safeElement_of_finish rfl (zlibHeader_safe _ h hp))

theorem safeElement_trailer (h : s.Consistent) (hd : decodeZtrl v = some i) : SafeElement i s := by
  unfold decodeZtrl at hd
  split_ifs at hd
  obtain rfl := Option.some.inj hd
  exact safeElement_of_finish rfl (zlibTrailer_safe _ h)

/-- The fixed tables have the sizes of R44. -/
theorem tablesOk_fixed (s : State) : (s.setTabs { s.work.tabs with ll := fixedLL, d := fixedD }).tablesOk := by
  have hsize : fixedLL.len.length = Config.numLL ∧ fixedLL.code.length = Config.numLL ∧
      fixedD.len.length = Config.numD ∧ fixedD.code.length = Config.numD := by decide +kernel
  exact hsize

theorem safeElement_blk (h : s.Consistent) (hr : s.readerOk) (hd : decodeBlk v = some i) : SafeElement i s := by
  have hbegin (bfinal : BitVec 1) (btype : BitVec 2) (insp : Inspect) :
      ((s.setRegs { s.work.regs with bfinal := bfinal, btype := btype }).setInsp insp).Consistent :=
    (h.setRegs _).setInsp _
  unfold decodeBlk at hd
  dsimp only at hd
  split_ifs at hd <;> obtain rfl := Option.some.inj hd
  · exact safeElement_of_next rfl ((hbegin _ _ _).inv_setRun_busy hr)
  · exact safeElement_of_next rfl
      (((hbegin _ _ _).setTabs _).inv_setRun_busy (p := .llsym) ⟨hr, tablesOk_fixed _⟩)
  · exact safeElement_of_next rfl ((hbegin _ _ _).inv_setRun_busy hr)
  · exact safeElement_of_finish (x := .raise .invalidBlock _) rfl (.raise { hbegin _ _ _ with } (by decide))

theorem safeElement_clsym (h : s.Consistent) (hp : s.phaseOk .clsym) (hd : decodeClsym v = some i) :
    SafeElement i s := by
  have hcli : s.work.regs.cli.toNat < s.lensWanted := by
    obtain ⟨-, -, -, -, -, -, hcli, -⟩ := hp
    exact hcli
  unfold decodeClsym at hd
  split_ifs at hd <;> obtain rfl := Option.some.inj hd
  · exact safeElement_of_finish rfl (nextLength_putLengths_safe _ h hp hcli)
  · by_cases hzero : s.work.regs.cli = 0#9
    · exact safeElement_of_finish (if_pos hzero) (.raise h (by decide))
    · exact safeElement_of_finish (if_neg hzero) (readBits_repeatLengths_safe _ _ _ h hp)
  · exact safeElement_of_finish rfl (readBits_repeatLengths_safe _ _ (fun _ => 0) h hp)
  · exact safeElement_of_finish rfl (readBits_repeatLengths_safe _ _ (fun _ => 0) h hp)

/-- The length symbols in order. -/
theorem exec_lenInstrs {n : Nat} (h : lenInstrs[n]? = some i) (s : State) :
    exec i s = (lengthSymbol (257 + n) s).finish := by
  have hn : n < 29 := (List.getElem?_eq_some_iff.mp h).1
  interval_cases n <;> (obtain rfl := Option.some.inj h; rfl)

/-- The distance symbols in order. -/
theorem exec_distInstrs {n : Nat} (h : distInstrs[n]? = some i) (s : State) :
    exec i s = (distSymbol n s).finish := by
  have hn : n < 30 := (List.getElem?_eq_some_iff.mp h).1
  interval_cases n <;> (obtain rfl := Option.some.inj h; rfl)

theorem safeElement_llsym (h : s.Consistent) (hp : s.phaseOk .llsym) (hd : decodeLlsym v = some i) :
    SafeElement i s := by
  unfold decodeLlsym at hd
  split_ifs at hd
  · obtain rfl := Option.some.inj hd
    exact safeElement_of_finish rfl (literal_safe _ h hp)
  · obtain rfl := Option.some.inj hd
    exact safeElement_of_next rfl (endBlock_inv h hp.1)
  · exact safeElement_of_finish (exec_lenInstrs hd s) (lengthSymbol_safe (by omega) (by omega) h hp)
  · obtain rfl := Option.some.inj hd
    exact safeElement_of_finish (x := .raise .invalidSymbol s) rfl (.raise h (by decide))

theorem safeElement_dsym (h : s.Consistent) (hp : s.phaseOk .dsym) (hd : decodeDsym v = some i) :
    SafeElement i s := by
  unfold decodeDsym at hd
  split_ifs at hd
  · exact safeElement_of_finish (exec_distInstrs hd s) (distSymbol_safe _ h hp)
  · obtain rfl := Option.some.inj hd
    exact safeElement_of_finish (x := .raise .invalidSymbol s) rfl (.raise h (by decide))

theorem safeElement_scanline (h : s.Consistent) (hp : s.phaseOk .scanline) (hd : decodeScanline v = some i) :
    SafeElement i s := by
  have hbad : (Res.raise .invalidFilterType s : Res Unit).Safe fun _ t => t.Inv := .raise h (by decide)
  unfold decodeScanline at hd
  replace hd := decoded_of_domain hd
  iterate 7
    refine of_decoded_row (P := (SafeElement · s)) hd (safeElement_of_finish rfl hbad) fun hd => ?_
  iterate 4
    refine of_decoded_row (P := (SafeElement · s)) hd (safeElement_of_finish rfl (unfilterRow_safe _ h hp)) fun hd => ?_
  obtain rfl := Option.some.inj hd
  exact safeElement_of_finish rfl (unfilterRow_safe _ h hp)

/-- Whatever the element in phase `p` is, its meaning leaves the invariant. -/
theorem safeElement_of_decode {p : Phase} (h : s.Consistent) (hp : s.phaseOk p) (hd : decode p.format v = some i) :
    SafeElement i s := by
  cases p with
  | zhdr => exact safeElement_zhdr h hp hd
  | blk => exact safeElement_blk h hp hd
  | stored =>
    obtain rfl := Option.some.inj hd
    exact safeElement_of_finish rfl (storedBlock_safe h hp)
  | dynhdr =>
    obtain rfl := Option.some.inj hd
    exact safeElement_of_finish rfl (dynHeader_safe h hp)
  | clsym => exact safeElement_clsym h hp hd
  | llsym => exact safeElement_llsym h hp hd
  | dsym => exact safeElement_dsym h hp hd
  | trailer => exact safeElement_trailer h hd
  | scanline => exact safeElement_scanline h hp hd

/-- Fetching a value keeps what the phase has set up. -/
theorem fetchValue_safe {p : Phase} (h : s.Consistent) (hp : s.phaseOk p) :
    (fetchValue p s).Safe fun _ t => t.Consistent ∧ t.phaseOk p := by
  cases p with
  | zhdr =>
    refine (readIn_safe 0 (by decide) h).bind ?_
    rintro _ _ rfl
    refine (readIn_safe 1 (by decide) h).bind ?_
    rintro _ _ rfl
    exact .ok ⟨h, hp⟩
  | blk =>
    refine (readBits_safe 3 h).mono ?_
    rintro _ _ ⟨-, h1, n, rfl⟩
    exact ⟨h1, hp⟩
  | stored => exact .ok ⟨h, hp⟩
  | dynhdr => exact .ok ⟨h, hp⟩
  | clsym =>
    refine (decodeSymbol_safe _ h).mono ?_
    rintro _ _ ⟨h1, n, rfl⟩
    exact ⟨h1, hp⟩
  | llsym =>
    refine (decodeSymbol_safe _ h).bind ?_
    rintro _ _ ⟨h1, n, rfl⟩
    exact .ok ⟨h1.setRegs _, hp⟩
  | dsym =>
    refine (decodeSymbol_safe _ h).bind ?_
    rintro _ _ ⟨h1, n, rfl⟩
    exact .ok ⟨h1.setRegs _, hp⟩
  | trailer =>
    refine (readInBytes_safe _ 4 (by decide) h).bind ?_
    rintro _ _ ⟨rfl, -⟩
    exact .ok ⟨h, hp⟩
  | scanline =>
    refine (readIn_safe _ (by decide) h).bind ?_
    rintro _ _ rfl
    exact .ok ⟨(h.setRegs _).setLine _, hp⟩

/-- An element that gives a next state raised while it was fetched, or its meaning gave that state. -/
theorem engineStep_eq_next {p : Phase} {t : State} (h : engineStep p s = .next t) :
    (∃ k u, fetchValue p s = .raise k u ∧ t = raiseError k u) ∨
      ∃ v u i, fetchValue p s = .ok v u ∧ decode p.format v = some i ∧ exec i u = .next t := by
  cases hv : fetchValue p s with
  | ok v u =>
    cases hd : decode p.format v with
    | some i => exact .inr ⟨v, u, i, rfl, hd, engineStep_of_fetch hv hd ▸ h⟩
    | none => simp [engineStep, fetch, hv, hd] at h
  | raise k u => exact .inl ⟨k, u, rfl, Host.Outcome.next.inj (h.symm.trans (engineStep_of_raise hv))⟩
  | refuse r => simp [engineStep, fetch, hv] at h

theorem idleOrEngine_inv {t : State} (h : s.Inv) (ht : idleOrEngine s = .next t) : t.Inv := by
  by_cases hb : s.isBusy = true
  · obtain ⟨p, hp⟩ := (State.isBusy_iff s).mp hb
    rw [idleOrEngine_of_busy hp] at ht
    have hfetch := fetchValue_safe h.consistent (h.phase p hp)
    obtain ⟨k, u, hv, rfl⟩ | ⟨v, u, i, hv, hd, he⟩ := engineStep_eq_next ht
    · rw [hv] at hfetch
      cases hfetch with | raise hu hk => exact hu.inv_raiseError hk
    · rw [hv] at hfetch
      cases hfetch with | ok hu => exact safeElement_of_decode hu.1 hu.2 hd t he
  · rw [idleOrEngine_of_idle (by simpa using hb)] at ht
    exact Host.Outcome.next.inj ht ▸ h

/-! ### The host's action -/

/-- The invariant does not speak of the model's own fields. -/
theorem State.Inv.ownFields (h : s.Inv) (l : List HostOp) (w : Word) (n : Nat) :
    { s with host := l, hostData := w, freeCtr := n }.Inv :=
  { h with }

/-- While no command runs, the registers the host writes are free. -/
theorem State.Inv.writeReg (h : s.Inv) (off : Nat) (w : Word) : (s.writeReg off w).Inv := by
  by_cases hb : s.isBusy = true
  · simpa [State.writeReg, hb] using h
  · rw [State.writeReg_frame]
    exact { h with phase := fun p hp => absurd ((State.isBusy_iff s).mpr ⟨p, hp⟩) hb }

theorem hostReset_inv (s : State) : (hostReset s).Inv :=
  { (invariantHoldsAtReset : State.reset.Inv) with outFits := Nat.zero_le _, phase := nofun }

theorem hostReadReg_inv (h : s.Inv) (off : Nat) : (hostReadReg off s).Inv := by
  rw [hostReadReg_frame]
  exact h.ownFields s.host _ _

theorem hostReadOut_inv {a : Nat} {t : State} (h : s.Inv) (ht : hostReadOut a s = .next t) : t.Inv := by
  unfold hostReadOut at ht
  split at ht
  · cases ht
  · split at ht
    · exact Host.Outcome.next.inj ht ▸ h.ownFields s.host _ s.freeCtr
    · exact Host.Outcome.next.inj ht ▸ h.ownFields s.host _ (s.freeCtr + 1)

theorem hostWriteIn_inv {a : Nat} {b : Byte} {t : State} (h : s.Inv) (ht : hostWriteIn a b s = .next t) : t.Inv := by
  unfold hostWriteIn at ht
  split_ifs at ht
  exact Host.Outcome.next.inj ht ▸ { h with inWf := Memory.wf_write _ _ _ h.inWf }

theorem hostWriteAux_inv {a : Nat} {b : Byte} {t : State} (h : s.Inv) (ht : hostWriteAux a b s = .next t) : t.Inv := by
  unfold hostWriteAux at ht
  split_ifs at ht
  exact Host.Outcome.next.inj ht ▸ { h with auxWf := Memory.wf_write _ _ _ h.auxWf }

theorem hostStep_inv {op : HostOp} {t : State} (h : s.Inv) (ht : hostStep op s = .next t) : t.Inv := by
  cases op with
  | writeReg off w =>
    rw [hostStep] at ht
    split at ht
    · exact writeCmd_inv h ht
    · exact Host.Outcome.next.inj ht ▸ h.writeReg off w
  | readReg off => exact Host.Outcome.next.inj ht ▸ hostReadReg_inv h off
  | writeIn a b => exact hostWriteIn_inv h ht
  | writeAux a b => exact hostWriteAux_inv h ht
  | readOut a => exact hostReadOut_inv h ht
  | tick => exact idleOrEngine_inv h ht
  | poll => exact Host.Outcome.next.inj ht ▸ h
  | reset => exact Host.Outcome.next.inj ht ▸ hostReset_inv s

end

end Sys2Proof.Machine
end

section
open Sys2Proof Sys2Proof.Machine

/-- Settles O58: a step is the engine's element, the end of a poll, or one action of the host, and each of them keeps the
invariant. -/
theorem everyStepKeepsTheInvariant : Obligations.EveryStepKeepsTheInvariant := by
  intro s t h ht
  have hhost (rest : List HostOp) : (s.setHost rest).Inv := h.ownFields rest s.hostData s.freeCtr
  obtain hengine | ⟨rest, -, -, hpoll⟩ | ⟨op, rest, -, -, hop⟩ := step_cases s
  · exact idleOrEngine_inv h (hengine ▸ ht)
  · exact Host.Outcome.next.inj (hpoll ▸ ht) ▸ hhost rest
  · exact hostStep_inv (hhost rest) (hop ▸ ht)

end

section

/-! SUPPORT. Decoder and encoder undo each other (30_encoding.md R119). Most rows of a format take the `2 ^ n` values
from a multiple `base` of `2 ^ n` on and carry the low `n` bits; the lemmas on one such row serve all of them. -/

namespace Sys2Proof

/-! ### One row -/

/-- The bits a row carries are the value's, when the row's base leaves them free. -/
theorem ofNat_row_value {n base : Nat} (low : BitVec n) (hbase : 2 ^ n ∣ base) :
    BitVec.ofNat n (base + low.toNat) = low := by
  obtain ⟨c, rfl⟩ := hbase
  apply BitVec.eq_of_toNat_eq
  rw [BitVec.toNat_ofNat, Nat.mul_add_mod, Nat.mod_eq_of_lt low.isLt]

/-- A value among those of the row is the row's base with the bits the row carries. -/
theorem row_value_ofNat {n base v : Nat} (hbase : 2 ^ n ∣ base) (hle : base ≤ v) (hlt : v < base + 2 ^ n) :
    base + (BitVec.ofNat n v).toNat = v := by
  obtain ⟨c, rfl⟩ := hbase
  obtain ⟨r, rfl⟩ := Nat.exists_eq_add_of_le hle
  rw [BitVec.toNat_ofNat, Nat.mul_add_mod, Nat.mod_eq_of_lt (Nat.lt_of_add_lt_add_left hlt)]

section
variable {f : Format} {v : Nat} {a i : Instr} {x : Option Instr}

/-- A row of `2 ^ n` values on top of rows whose instructions encode to the value they were decoded from. -/
theorem encode_of_row {n base : Nat} {mk : BitVec n → Instr}
    (h : (if base ≤ v then some (mk (BitVec.ofNat n v)) else x) = some i) (hv : v < base + 2 ^ n)
    (hbase : 2 ^ n ∣ base) (hmk : ∀ low, encode (mk low) = (f, base + low.toNat))
    (hx : v < base → x = some i → encode i = (f, v)) : encode i = (f, v) := by
  by_cases hle : base ≤ v
  · rw [if_pos hle] at h
    obtain rfl := Option.some.inj h
    rw [hmk, row_value_ofNat hbase hle hv]
  · rw [if_neg hle] at h
    exact hx (Nat.lt_of_not_le hle) h

/-- A row of one value on top of such rows. -/
theorem encode_of_singleton_row {c : Nat} (h : (if v = c then some a else x) = some i) (hv : v < c + 1)
    (ha : encode a = (f, c)) (hx : v < c → x = some i → encode i = (f, v)) : encode i = (f, v) := by
  by_cases hc : v = c
  · rw [if_pos hc] at h
    obtain rfl := Option.some.inj h
    rw [ha, hc]
  · rw [if_neg hc] at h
    exact hx (by omega) h

/-- The rows above the one a value belongs to do not take it. -/
theorem skip_row {n base b : Nat} (low : BitVec n) (hb : base + 2 ^ n ≤ b) {y : Option Instr} :
    (if b ≤ base + low.toNat then y else x) = x :=
  if_neg (Nat.not_le.mpr (Nat.lt_of_lt_of_le (Nat.add_lt_add_left low.isLt base) hb))

/-- A condition that holds from the row's base on holds of the row's values. -/
theorem take_row {n base b : Nat} (low : BitVec n) (hb : b ≤ base) {y : Option Instr} :
    (if b ≤ base + low.toNat then y else x) = y :=
  if_pos (Nat.le_add_right_of_le hb)

/-- A row of one value does not take the values of a row beside it. -/
theorem skip_singleton_row {n base c : Nat} (low : BitVec n) (hc : c < base ∨ base + 2 ^ n ≤ c) {y : Option Instr} :
    (if base + low.toNat = c then y else x) = x := by
  have := low.isLt
  exact if_neg (by omega)

/-- A row or the rows below it have an instruction for the value. -/
theorem isSome_row {c : Prop} [Decidable c] : (if c then some a else x).isSome = true ↔ c ∨ x.isSome = true := by
  split <;> simp_all

/-- Values outside the domain have none. -/
theorem isSome_domain {c : Prop} [Decidable c] :
    (if c then none else x).isSome = true ↔ ¬ c ∧ x.isSome = true := by
  split <;> simp_all

/-! ### The domains

Where the last row of a decoder takes whatever is left, its check of the domain alone decides whether a value has an
instruction; elsewhere its rows together do. -/

theorem decodeZhdr_isSome : (decodeZhdr v).isSome = true ↔ v < 65536 := by
  simp [decodeZhdr, isSome_domain, isSome_row]

theorem decodeZtrl_isSome : (decodeZtrl v).isSome = true ↔ v < 2 ^ 32 := by
  simp [decodeZtrl]

theorem decodeBlk_isSome : (decodeBlk v).isSome = true ↔ v < 8 := by
  simp [decodeBlk, isSome_domain, isSome_row]

theorem decodeClsym_isSome : (decodeClsym v).isSome = true ↔ v < 19 := by
  simp only [decodeClsym, isSome_row, Option.isSome_none, Bool.false_eq_true, or_false]
  omega

theorem lenInstrs_isSome {n : Nat} : lenInstrs[n]?.isSome = true ↔ n < 29 := by
  simp [lenInstrs]

theorem distInstrs_isSome {n : Nat} : distInstrs[n]?.isSome = true ↔ n < 30 := by
  simp [distInstrs]

theorem decodeLlsym_isSome : (decodeLlsym v).isSome = true ↔ v < 288 := by
  unfold decodeLlsym
  rw [isSome_row, isSome_row]
  split
  · rw [lenInstrs_isSome]
    omega
  · rw [isSome_row]
    simp only [Option.isSome_none, Bool.false_eq_true, or_false]
    omega

theorem decodeDsym_isSome : (decodeDsym v).isSome = true ↔ v < 32 := by
  unfold decodeDsym
  split
  · rw [distInstrs_isSome]
    omega
  · rw [isSome_row]
    simp only [Option.isSome_none, Bool.false_eq_true, or_false]

theorem decodeScanline_isSome : (decodeScanline v).isSome = true ↔ v < 256 := by
  simp [decodeScanline, isSome_domain, isSome_row]

theorem decodeCmdReserved_isSome : (decodeCmdReserved v).isSome = true ↔ 2 ^ 8 ≤ v := by
  simp only [decodeCmdReserved, isSome_row, Option.isSome_none, Bool.false_eq_true, or_false]
  omega

theorem decodeOpcode_isSome : (decodeOpcode v).isSome = true ↔ v < 0x100 := by
  simp [decodeOpcode, isSome_domain, isSome_row]

theorem decodeCmdw_isSome : (decodeCmdw v).isSome = true ↔ v < 2 ^ 32 := by
  unfold decodeCmdw
  rw [isSome_domain]
  split
  · rw [decodeCmdReserved_isSome]
    omega
  · rw [decodeOpcode_isSome]
    omega

/-! ### The encoder after the decoder -/

theorem encode_of_decodeZhdr (h : decodeZhdr v = some i) : encode i = (.zhdr, v) := by
  unfold decodeZhdr at h
  dsimp only at h
  split_ifs at h <;> obtain rfl := Option.some.inj h
  all_goals
    refine Prod.ext rfl ?_
    simp only [encode, Instr.value, zhdrWord, BitVec.toNat_ofNat]
    omega

theorem encode_of_decodeZtrl (h : decodeZtrl v = some i) : encode i = (.ztrl, v) := by
  unfold decodeZtrl at h
  split_ifs at h with hv
  obtain rfl := Option.some.inj h
  exact Prod.ext rfl (Nat.mod_eq_of_lt (Nat.lt_of_not_le hv))

theorem encode_of_decodeBlk (h : decodeBlk v = some i) : encode i = (.blk, v) := by
  unfold decodeBlk at h
  dsimp only at h
  split_ifs at h <;> obtain rfl := Option.some.inj h
  all_goals
    refine Prod.ext rfl ?_
    simp only [encode, Instr.value, BitVec.toNat_ofNat]
    omega

theorem encode_of_decodeClsym (h : decodeClsym v = some i) : encode i = (.clsym, v) := by
  unfold decodeClsym at h
  split_ifs at h with hv h16 h17 h18 <;> obtain rfl := Option.some.inj h
  · exact Prod.ext rfl (Nat.mod_eq_of_lt hv)
  · rw [h16]; rfl
  · rw [h17]; rfl
  · rw [h18]; rfl

/-- The length symbols are listed in the order of their numbers. -/
theorem encode_of_lenInstrs {n : Nat} (h : lenInstrs[n]? = some i) : encode i = (.llsym, 257 + n) := by
  have hn : n < 29 := (List.getElem?_eq_some_iff.mp h).1
  interval_cases n <;> (obtain rfl := Option.some.inj h; rfl)

/-- The distance symbols are listed in the order of their numbers. -/
theorem encode_of_distInstrs {n : Nat} (h : distInstrs[n]? = some i) : encode i = (.dsym, n) := by
  have hn : n < 30 := (List.getElem?_eq_some_iff.mp h).1
  interval_cases n <;> (obtain rfl := Option.some.inj h; rfl)

theorem encode_of_decodeLlsym (h : decodeLlsym v = some i) : encode i = (.llsym, v) := by
  unfold decodeLlsym at h
  split_ifs at h with hlit heob hlen hill
  · obtain rfl := Option.some.inj h
    exact Prod.ext rfl (Nat.mod_eq_of_lt hlit)
  · obtain rfl := Option.some.inj h
    rw [heob]; rfl
  · rw [encode_of_lenInstrs h, Nat.add_sub_cancel' (by omega)]
  · obtain rfl := Option.some.inj h
    exact Prod.ext rfl (row_value_ofNat (by decide) (Nat.le_of_not_lt hlen) hill)

theorem encode_of_decodeDsym (h : decodeDsym v = some i) : encode i = (.dsym, v) := by
  unfold decodeDsym at h
  split_ifs at h with hdist hill
  · exact encode_of_distInstrs h
  · obtain rfl := Option.some.inj h
    exact Prod.ext rfl (row_value_ofNat (by decide) (Nat.le_of_not_lt hdist) hill)

theorem encode_of_decodeScanline (h : decodeScanline v = some i) : encode i = (.scanline, v) := by
  have hv : v < 256 := decodeScanline_isSome.mp (h ▸ rfl)
  unfold decodeScanline at h
  replace h := Machine.decoded_of_domain h
  iterate 5 refine encode_of_row h hv (by decide) (fun _ => rfl) fun hv h => ?_
  interval_cases v <;> (obtain rfl := Option.some.inj h; rfl)

/-- The rows of the reserved bits, from bit 31 down: each has a value's highest set bit as its base. -/
theorem encode_of_decodeCmdReserved (h : decodeCmdReserved v = some i) (hv : v < 2 ^ 32) : encode i = (.cmdw, v) := by
  unfold decodeCmdReserved at h
  iterate 24 refine encode_of_row h hv (by decide) (fun _ => rfl) fun hv h => ?_
  cases h

/-- The rows of the opcode map, from opcode 0xFF down: the opcodes of R120 and the unassigned ones between them. -/
theorem encode_of_decodeOpcode (h : decodeOpcode v = some i) : encode i = (.cmdw, v) := by
  have hv : v < 0x100 := decodeOpcode_isSome.mp (h ▸ rfl)
  unfold decodeOpcode at h
  replace h := Machine.decoded_of_domain h
  iterate 6 refine encode_of_row h hv (by decide) (fun _ => rfl) fun hv h => ?_
  iterate 2 refine encode_of_singleton_row h hv rfl fun hv h => ?_
  refine encode_of_row h hv (by decide) (fun _ => rfl) fun hv h => ?_
  iterate 4 refine encode_of_singleton_row h hv rfl fun hv h => ?_
  refine encode_of_row h hv (by decide) (fun _ => rfl) fun hv h => ?_
  iterate 5 refine encode_of_singleton_row h hv rfl fun hv h => ?_
  obtain rfl := Option.some.inj h
  exact Prod.ext rfl (Nat.lt_one_iff.mp hv).symm

theorem encode_of_decodeCmdw (h : decodeCmdw v = some i) : encode i = (.cmdw, v) := by
  unfold decodeCmdw at h
  split_ifs at h with hv
  · exact encode_of_decodeCmdReserved h (Nat.lt_of_not_le hv)
  · exact encode_of_decodeOpcode h

end

/-! ### The decoder after the encoder -/

/-- Each row's instruction is what the decoder answers for its value: on it the conditions of the rows above fail, the
row's own holds, and its fields read the operands back. -/
theorem decode_value (i : Instr) : decode i.format i.value = some i := by
  cases i with
  | zhdrBadFdict hi lo =>
    have := hi.isLt
    have := lo.isLt
    dsimp only [decode, Instr.format, Instr.value, decodeZhdr]
    simp (disch := omega) only [if_neg, if_pos]
    congr 2 <;> bv_omega
  | zhdr cinfo flevel fcheck | zhdrBadCm1001 cinfo flevel fcheck =>
    have := cinfo.isLt
    have := flevel.isLt
    have := fcheck.isLt
    dsimp only [decode, Instr.format, Instr.value, zhdrWord, decodeZhdr]
    simp (disch := omega) only [if_neg, if_pos]
    congr 2 <;> bv_omega
  | zhdrBadCm0xxx cinfo cm flevel fcheck | zhdrBadCm11xx cinfo cm flevel fcheck
  | zhdrBadCm101x cinfo cm flevel fcheck =>
    have := cinfo.isLt
    have := cm.isLt
    have := flevel.isLt
    have := fcheck.isLt
    dsimp only [decode, Instr.format, Instr.value, decodeZhdr]
    simp (disch := omega) only [if_neg, if_pos]
    congr 2 <;> bv_omega
  | zhdrBadCinfo low | adler32 low | blockStored low | blockFixed low | blockDynamic low | blockReserved low
  | clen low | lit low | llIllegal low | distIllegal low | filtIllegal5or7 low =>
    have := low.isLt
    dsimp only [decode, Instr.format, Instr.value, decodeZhdr, decodeZtrl, decodeBlk, decodeClsym, decodeLlsym,
      decodeDsym, decodeScanline]
    simp (disch := omega) only [if_neg, if_pos]
    congr 2
    bv_omega
  | filtIllegal8to15 low | filtIllegal16to31 low | filtIllegal32to63 low | filtIllegal64to127 low
  | filtIllegal128to255 low | cmdIllegalBit31 low | cmdIllegalBit30 low | cmdIllegalBit29 low | cmdIllegalBit28 low
  | cmdIllegalBit27 low | cmdIllegalBit26 low | cmdIllegalBit25 low | cmdIllegalBit24 low | cmdIllegalBit23 low
  | cmdIllegalBit22 low | cmdIllegalBit21 low | cmdIllegalBit20 low | cmdIllegalBit19 low | cmdIllegalBit18 low
  | cmdIllegalBit17 low | cmdIllegalBit16 low | cmdIllegalBit15 low | cmdIllegalBit14 low | cmdIllegalBit13 low
  | cmdIllegalBit12 low | cmdIllegalBit11 low | cmdIllegalBit10 low | cmdIllegalBit9 low | cmdIllegalBit8 low
  | cmdIllegal06 low | cmdIllegal0C low | cmdIllegal12 low | cmdIllegal14 low | cmdIllegal18 low | cmdIllegal20 low
  | cmdIllegal40 low | cmdIllegal80 low =>
    dsimp only [decode, Instr.format, Instr.value, decodeScanline, decodeCmdw, decodeCmdReserved, decodeOpcode]
    simp (disch := decide) only [skip_row, take_row, skip_singleton_row, ofNat_row_value]
  | _ => rfl

end Sys2Proof
end

section

/-! SUPPORT. What each phase fetches, and the elements that are illegal by themselves. -/

namespace Sys2Proof.Machine

/-! ### What is fetched -/

/-- A symbol goes into SYM (R230). -/
theorem fetchSymbol_of_decodeSymbol {v : Nat} {s t : State} (h : decodeSymbol s.work.tabs.ll s = .ok v t) :
    fetchSymbol s = .ok v (t.setRegs { t.work.regs with sym := BitVec.ofNat 9 v }) := by
  rw [fetchSymbol, h, Res.bind_ok]

/-- A distance symbol goes into DSYM (R234). -/
theorem fetchDistance_of_decodeSymbol {v : Nat} {s t : State} (h : decodeSymbol s.work.tabs.d s = .ok v t) :
    fetchDistance s = .ok v (t.setRegs { t.work.regs with dsym := BitVec.ofNat 5 v }) := by
  rw [fetchDistance, h, Res.bind_ok]

theorem fetchHeader_of_read {c f : Byte} {s : State} (hlen : 2 ≤ s.inLen.toNat) (hc : s.inBuf.read 0 = some c)
    (hf : s.inBuf.read 1 = some f) : fetchHeader s = .ok (c.toNat * 256 + f.toNat) s := by
  rw [fetchHeader, readIn_of_read (by omega) hc, Res.bind_ok, readIn_of_read (by omega) hf, Res.bind_ok]

theorem fetchTrailer_of_read {a b c d : Byte} {s : State} (hlen : 4 ≤ s.inLen.toNat)
    (ha : s.inBuf.read (s.inLen.toNat - 4) = some a) (hb : s.inBuf.read (s.inLen.toNat - 3) = some b)
    (hc : s.inBuf.read (s.inLen.toNat - 2) = some c) (hd : s.inBuf.read (s.inLen.toNat - 1) = some d) :
    fetchTrailer s = .ok (a.toNat * 2 ^ 24 + b.toNat * 2 ^ 16 + c.toNat * 2 ^ 8 + d.toNat) s := by
  have hbytes : s.inBuf.bytes (s.inLen.toNat - 4) 4 = some [a, b, c, d] := by
    refine (Memory.bytes_eq_some_iff _ _ _ _).mpr ⟨rfl, fun i hi => ?_⟩
    interval_cases i
    · exact ha
    · rwa [show s.inLen.toNat - 4 + 1 = s.inLen.toNat - 3 by omega]
    · rwa [show s.inLen.toNat - 4 + 2 = s.inLen.toNat - 2 by omega]
    · rwa [show s.inLen.toNat - 4 + 3 = s.inLen.toNat - 1 by omega]
  have hvalue : [a, b, c, d].foldl (fun acc b => acc * 256 + b.toNat) 0 =
      a.toNat * 2 ^ 24 + b.toNat * 2 ^ 16 + c.toNat * 2 ^ 8 + d.toNat := by
    simp only [List.foldl_cons, List.foldl_nil]
    omega
  rw [fetchTrailer, readInBytes_of_bytes (by omega) hbytes, Res.bind_ok, hvalue]

theorem fetchFilter_of_read {f : Byte} {s : State} (hpos : s.work.line.pos < s.inLen.toNat)
    (hf : s.inBuf.read s.work.line.pos = some f) :
    fetchFilter s = .ok f.toNat
      ((s.setRegs { s.work.regs with f := f }).setLine { s.work.line with pos := s.work.line.pos + 1 }) := by
  rw [fetchFilter, readIn_of_read hpos hf, Res.bind_ok]

/-! ### Elements that are illegal by themselves -/

/-- No illegal header passes the check (R241). -/
theorem zlibHeader_of_bad {v : Nat} (h : 7 < v / 4096 % 16 ∨ v / 32 % 2 = 1 ∨ v / 256 % 16 ≠ 8) (s : State) :
    zlibHeader v s = .raise .badZlibHeader s := by
  rw [zlibHeader, if_neg]
  simp only [zlibHeaderOk, Bool.and_eq_true, decide_eq_true_eq]
  omega

/-- An element that is illegal by itself raises its kind; the header elements do because they fail the header check. -/
theorem exec_of_illegalKind {i : Instr} {k : ErrKind} (h : illegalKind i = some k) (s : State) :
    ∃ t, exec i s = .next t ∧ s.raised k t := by
  have hheader {v : Nat} (hv : 7 < v / 4096 % 16 ∨ v / 32 % 2 = 1 ∨ v / 256 % 16 ≠ 8)
      (he : exec i s = (zlibHeader v s).finish) : ∃ t, exec i s = .next t ∧ s.raised .badZlibHeader t :=
    ⟨raiseError .badZlibHeader s, by rw [he, zlibHeader_of_bad hv, Res.finish_raise], rfl⟩
  cases i with
  | zhdrBadCinfo | zhdrBadFdict | zhdrBadCm0xxx | zhdrBadCm11xx | zhdrBadCm101x | zhdrBadCm1001 =>
    obtain rfl := Option.some.inj h
    exact hheader (by omega) rfl
  | blockReserved | llIllegal | distIllegal | filtIllegal5or7 | filtIllegal6 | filtIllegal8to15 | filtIllegal16to31
  | filtIllegal32to63 | filtIllegal64to127 | filtIllegal128to255 =>
    obtain rfl := Option.some.inj h
    exact ⟨_, rfl, rfl⟩
  | _ => cases h

end Sys2Proof.Machine
end

section
open Sys2Proof Sys2Proof.Machine

/-- Settles O10: only a ZHDR has a condition on its operands, and the decoder leaves that one to the header check (R119,
R241), so the decoder undoes the encoder on every instruction. -/
theorem decodeEncode : Obligations.DecodeEncode := fun i _ => decode_value i

/-- Settles O11, format by format. -/
theorem encodeDecode : Obligations.EncodeDecode := by
  refine ⟨fun f v i h hstored hdynhdr => ?_, fun _ => decodeZhdr_isSome, fun _ => decodeZtrl_isSome,
    fun _ => decodeBlk_isSome, fun _ => decodeClsym_isSome, fun _ => decodeLlsym_isSome, fun _ => decodeDsym_isSome,
    fun _ => decodeScanline_isSome, fun _ => decodeCmdw_isSome⟩
  cases f with
  | zhdr => exact encode_of_decodeZhdr h
  | ztrl => exact encode_of_decodeZtrl h
  | blk => exact encode_of_decodeBlk h
  | stored => exact absurd rfl hstored
  | dynhdr => exact absurd rfl hdynhdr
  | clsym => exact encode_of_decodeClsym h
  | llsym => exact encode_of_decodeLlsym h
  | dsym => exact encode_of_decodeDsym h
  | scanline => exact encode_of_decodeScanline h
  | cmdw => exact encode_of_decodeCmdw h

/-- Settles O9: each word is the encoding of the instruction it is said to decode to. -/
theorem sampleWordsDecode : Obligations.SampleWordsDecode :=
  ⟨decode_value (.zhdr 7#3 0#2 1#5), decode_value (.adler32 0x00620062#32), decode_value (.blockFixed 1#1),
    decode_value (.blockReserved 0#1), decode_value .stored, decode_value .dynhdr, decode_value .crep,
    decode_value (.clen 7#4), decode_value (.lit 0x61#8), decode_value .eob, decode_value .len285,
    decode_value (.llIllegal 1#1), decode_value .dist29, decode_value (.distIllegal 1#1), decode_value .filtPaeth,
    decode_value (.filtIllegal5or7 1#1), decode_value .zlibDecompress, decode_value .filter,
    decode_value (.cmdIllegal06 0#1), decode_value (.cmdIllegalBit8 1#8)⟩

/-- Settles O8: what the fetch of each phase reads, phase by phase. -/
theorem fetchReadsTheElement : Obligations.FetchReadsTheElement := fun _ =>
  ⟨fun _ hv => readBits_of_nextField hv, fun _ _ hlen hc hf => fetchHeader_of_read hlen hc hf,
    fun _ _ _ _ hlen ha hb hc hd => fetchTrailer_of_read hlen ha hb hc hd,
    fun _ hpos hf => fetchFilter_of_read hpos hf, fun _ _ h => h, fun _ _ h => fetchSymbol_of_decodeSymbol h,
    fun _ _ h => fetchDistance_of_decodeSymbol h⟩

/-- Settles O28: every row `illegalKind` names raises its kind. -/
theorem illegalElementsRaise : Obligations.IllegalElementsRaise := fun _ _ s h => exec_of_illegalKind h s

end

section

/-! SUPPORT. The engine never stops: with IN written and the invariant, no operation of an element refuses. -/

namespace Sys2Proof.Machine

/-! ### What an element may read -/

/-- Every byte of IN below IN_LEN was written (R54). -/
def State.inputWritten (s : State) : Prop := ∀ a, a < s.inLen.toNat → (s.inBuf.read a).isSome = true

/-- Every bit of the active input is there. -/
def State.readable (s : State) : Prop := ∀ k, k < s.inputBits → (streamBit s k).isSome = true

/-- Every byte of OUT below OUT_LEN is there. -/
def State.outWritten (s : State) : Prop := ∀ a, a < s.outLen.toNat → (s.outBuf.read a).isSome = true

@[simp] theorem State.readable_setBitpos (s : State) (n : Nat) : (s.setBitpos n).readable ↔ s.readable := Iff.rfl
@[simp] theorem State.readable_setRegs (s : State) (r : Regs) : (s.setRegs r).readable ↔ s.readable := Iff.rfl
@[simp] theorem State.readable_byteAlign (s : State) : (byteAlign s).readable ↔ s.readable := Iff.rfl

section
variable {s : State}

/-- The active input lies inside IN (R22). -/
theorem State.readerOk.readable (hr : s.readerOk) (hw : s.inputWritten) : s.readable := by
  intro k hk
  obtain ⟨hin, -⟩ := hr
  rw [streamBit, Option.isSome_map]
  exact hw _ (by simp only [State.inputBits] at hk; omega)

/-- A byte of a buffer that lists the index is there. -/
theorem Memory.read_isSome_of_mem {m : Memory} {a : Nat} (h : a ∈ m.map Prod.fst) : (m.read a).isSome = true := by
  induction m with
  | nil => cases h
  | cons c rest ih =>
    obtain ⟨x, b⟩ := c
    unfold Memory.read
    split
    · rfl
    · rename_i hx
      exact ih ((List.mem_cons.mp h).resolve_left fun e => hx e.symm)

theorem State.Consistent.outWritten (h : s.Consistent) : s.outWritten := fun _ ha =>
  Memory.read_isSome_of_mem (h.outCells ▸ List.mem_range.mpr ha)

/-! ### Operations that answer -/

/-- The operation goes well or raises. -/
def Res.Answers {α : Type} (x : Res α) : Prop := ∀ r, x ≠ .refuse r

theorem Res.Answers.ok {α : Type} {a : α} {s : State} : (Res.ok a s).Answers := nofun

theorem Res.Answers.raise {α : Type} {k : ErrKind} {s : State} : (Res.raise k s : Res α).Answers := nofun

theorem Res.Answers.bind {α β : Type} {x : Res α} {f : α → State → Res β} (hx : x.Answers)
    (hf : ∀ a u, x = .ok a u → (f a u).Answers) : (x.bind f).Answers := by
  intro r hr
  obtain hr | ⟨a, u, ha, hr⟩ := Res.bind_eq_refuse.mp hr
  · exact hx r hr
  · exact hf a u ha r hr

/-- An operation that answers gives the step a next state. -/
theorem Res.Answers.finish {x : Res Unit} (hx : x.Answers) : ∃ t, x.finish = .next t := by
  cases x with
  | ok _ t => exact ⟨t, rfl⟩
  | raise k t => exact ⟨raiseError k t, rfl⟩
  | refuse r => exact absurd rfl (hx r)

/-! ### The bit reader -/

theorem readBits_answers (n : Nat) (h : s.readable) : (readBits n s).Answers := by
  intro r hr
  obtain ⟨-, hle, hnone⟩ := readBits_eq_refuse hr
  have hsome := (streamField_isSome_iff s s.work.rd.bitpos n).mpr fun i hi => h _ (by omega)
  rw [hnone] at hsome
  cases hsome

theorem readBits_bind_answers {α : Type} {n : Nat} {f : Nat → State → Res α} (h : s.readable)
    (hf : ∀ v p, (f v (s.setBitpos p)).Answers) : ((readBits n s).bind f).Answers := by
  refine (readBits_answers n h).bind fun v u hv => ?_
  obtain ⟨-, rfl⟩ := readBits_eq_ok hv
  exact hf v _

theorem decodeFrom_answers (T : HuffTable) (fuel n c : Nat) (h : s.readable) : (decodeFrom T fuel n c s).Answers := by
  induction fuel generalizing n c s with
  | zero => exact .raise
  | succ k ih =>
    refine readBits_bind_answers h fun b p => ?_
    split
    · exact .ok
    · exact ih _ _ h

/-- A decoded symbol is one of the table's. -/
theorem decodeSymbol_lt {T : HuffTable} {v : Nat} {t : State} (h : decodeSymbol T s = .ok v t) : v < T.len.length := by
  obtain ⟨m, -, -, -, -, d, hd⟩ := decodeFrom_eq_ok h
  simpa using (findSymbol_lt hd).2

/-! ### Reading IN and OUT -/

theorem readIn_answers (k : ErrKind) (a : Nat) (h : s.inputWritten) : (readIn k a s).Answers := by
  unfold readIn
  split
  · exact .raise
  · obtain ⟨b, hb⟩ := Option.isSome_iff_exists.mp (h a (Nat.lt_of_not_le ‹_›))
    rw [hb]
    exact .ok

theorem readInBytes_answers (k : ErrKind) (a n : Nat) (h : s.inputWritten) : (readInBytes k a n s).Answers := by
  unfold readInBytes
  split
  · exact .raise
  · obtain ⟨bs, hbs⟩ := Option.isSome_iff_exists.mp
      ((Memory.bytes_isSome_iff s.inBuf a n).mpr fun j hj => h _ (by omega))
    rw [hbs]
    exact .ok

theorem readAllOut_answers (h : s.outWritten) : (readAllOut s).Answers := by
  unfold readAllOut
  obtain ⟨bs, hbs⟩ := Option.isSome_iff_exists.mp
    ((Memory.bytes_isSome_iff s.outBuf 0 s.outLen.toNat).mpr fun j hj => h _ (by omega))
  rw [hbs]
  exact .ok

/-! ### Appending to OUT -/

theorem appendAll_answers (bs : List Byte) (s : State) : (appendAll bs s).Answers := by
  obtain ⟨m, n, h⟩ | ⟨m, n, h⟩ := appendAll_cases bs s
  · rw [h]; exact .ok
  · rw [h]; exact .raise

theorem appendOut_answers (b : Byte) (s : State) : (appendOut b s).Answers := by
  unfold appendOut
  split
  · exact .raise
  · exact .ok

/-- A copy with its bytes written answers, whether OUT has room for them or not. -/
theorem copyStored_answers {n k : Nat}
    (hw : ∀ j, j < n → (s.inBuf.read (s.work.rd.base + k + j)).isSome = true) : (copyStored n k s).Answers := by
  obtain ⟨bs, hbs⟩ := Option.isSome_iff_exists.mp ((Memory.bytes_isSome_iff s.inBuf (s.work.rd.base + k) n).mpr hw)
  cases n with
  | zero => exact .ok
  | succ m =>
    by_cases hroom : s.outLen.toNat + (m + 1) ≤ s.params.outCap.toNat
    · obtain ⟨t, ht, -⟩ := copyStored_of_room hbs hroom
      rw [ht]; exact .ok
    · obtain ⟨t, ht, -⟩ := copyStored_of_full hbs (Nat.succ_pos m) (Nat.lt_of_not_le hroom)
      rw [ht]; exact .raise

/-- So does a match that starts inside the history. -/
theorem copyMatch_answers {n dist : Nat} (hn : 1 ≤ n) (h1 : 1 ≤ dist) (h2 : dist ≤ s.outLen.toNat)
    (hw : s.outWritten) : (copyMatch n dist s).Answers := by
  by_cases hroom : s.outLen.toNat + n ≤ s.params.outCap.toNat
  · obtain ⟨t, ht, -⟩ := copyMatch_of_room h1 h2 (fun a _ ha => hw a ha) hroom
    rw [ht]; exact .ok
  · obtain ⟨t, ht, -⟩ := copyMatch_of_full h1 h2 (fun a _ ha => hw a ha) hn (Nat.lt_of_not_le hroom)
    rw [ht]; exact .raise

/-! ### Blocks -/

theorem storedBlock_answers (h : s.readerOk) (hw : s.inputWritten) : (storedBlock s).Answers := by
  have hread := h.readable hw
  unfold storedBlock
  refine readBits_bind_answers (by simpa using hread) fun len p => ?_
  refine readBits_bind_answers (by simpa using hread) fun nlen q => ?_
  dsimp only
  split_ifs with _ hend
  · exact .raise
  · exact .raise
  · have hbytes (j : Nat) (hj : j < len) : (s.inBuf.read (s.work.rd.base + q / 8 + j)).isSome = true := by
      obtain ⟨hin, -⟩ := h
      simp only [State.inputBits, byteAlign, State.setRegs_work, State.setBitpos_work] at hend
      exact hw _ (by omega)
    exact (copyStored_answers (by simpa [byteAlign] using hbytes)).bind fun _ _ _ => .ok

theorem readClLengths_answers (order acc : List Nat) (h : s.readable) : (readClLengths order acc s).Answers := by
  induction order generalizing acc s with
  | nil => exact .ok
  | cons c rest ih => exact readBits_bind_answers h fun v p => ih _ h

theorem dynHeader_answers (h : s.readable) : (dynHeader s).Answers := by
  unfold dynHeader
  refine readBits_bind_answers h fun a p => ?_
  refine readBits_bind_answers (by simpa using h) fun b q => ?_
  refine readBits_bind_answers (by simpa using h) fun c r => ?_
  refine (readClLengths_answers _ _ (by simpa using h)).bind fun _ _ _ => ?_
  split
  · exact .raise
  · exact .ok

/-! ### The code-length sequence -/

theorem buildTables_answers (s : State) : (buildTables s).Answers := by
  unfold buildTables
  dsimp only
  split_ifs
  · exact .raise
  · exact .raise
  · exact .raise
  · exact .ok

theorem nextLength_answers (s : State) : (nextLength s).Answers := by
  unfold nextLength
  split
  · exact .ok
  · exact buildTables_answers s

theorem repeatLengths_answers (v n : Nat) (s : State) : (repeatLengths v n s).Answers := by
  unfold repeatLengths
  split
  · exact .raise
  · exact nextLength_answers _

/-! ### The symbol loop -/

theorem literal_answers (b : Byte) (s : State) : (literal b s).Answers :=
  (appendOut_answers b s).bind fun _ _ _ => .ok

theorem lengthSymbol_answers (sym : Nat) (h : s.readable) : (lengthSymbol sym s).Answers :=
  readBits_bind_answers h fun _ _ => .ok

theorem dbase_pos {sym : Nat} (h : sym < 30) : 1 ≤ dbase sym := by
  have hrows : ∀ d < 30, 1 ≤ dbase d := by decide
  exact hrows sym h

theorem distSymbol_answers {sym : Nat} (hsym : sym < 30) (hr : s.readable) (ho : s.outWritten)
    (hlen : 3 ≤ s.work.regs.length.toNat) : (distSymbol sym s).Answers := by
  refine readBits_bind_answers hr fun x p => ?_
  dsimp only
  split
  · exact .raise
  · rename_i hdist
    have hpos := dbase_pos hsym
    refine Res.Answers.bind ?_ fun _ _ _ => .ok
    exact copyMatch_answers ((by decide : 1 ≤ 3).trans hlen) (by omega) (Nat.le_of_not_lt hdist) ho

/-! ### The zlib framing and scanlines -/

theorem zlibHeader_answers (v : Nat) (s : State) : (zlibHeader v s).Answers := by
  unfold zlibHeader
  split
  · exact .ok
  · exact .raise

theorem zlibTrailer_answers (a : Word) (h : s.outWritten) : (zlibTrailer a s).Answers := by
  refine (readAllOut_answers h).bind fun _ _ _ => ?_
  dsimp only
  split
  · exact .raise
  · exact .ok

theorem unfilterRow_answers (f : Nat) (h : s.inputWritten) : (unfilterRow f s).Answers :=
  (readInBytes_answers _ _ _ h).bind fun _ _ _ => (appendAll_answers _ _).bind fun _ _ _ => .ok

end

/-! ### The element's meaning -/

/-- The element's meaning gives a next state. -/
def ElementAnswers (i : Instr) (s : State) : Prop := ∃ t, exec i s = .next t

theorem elementAnswers_of_finish {i : Instr} {s : State} {x : Res Unit} (he : exec i s = x.finish) (hx : x.Answers) :
    ElementAnswers i s :=
  hx.finish.imp fun _ ht => he.trans ht

section
variable {s : State} {v : Nat} {i : Instr}

theorem elementAnswers_zhdr (hd : decodeZhdr v = some i) : ElementAnswers i s := by
  unfold decodeZhdr at hd
  dsimp only at hd
  split_ifs at hd <;> (obtain rfl := Option.some.inj hd; exact elementAnswers_of_finish rfl (zlibHeader_answers _ s))

theorem elementAnswers_trailer (ho : s.outWritten) (hd : decodeZtrl v = some i) : ElementAnswers i s := by
  unfold decodeZtrl at hd
  split_ifs at hd
  obtain rfl := Option.some.inj hd
  exact elementAnswers_of_finish rfl (zlibTrailer_answers _ ho)

theorem elementAnswers_blk (hd : decodeBlk v = some i) : ElementAnswers i s := by
  unfold decodeBlk at hd
  dsimp only at hd
  split_ifs at hd <;> (obtain rfl := Option.some.inj hd; exact ⟨_, rfl⟩)

theorem elementAnswers_clsym (hr : s.readable) (hd : decodeClsym v = some i) : ElementAnswers i s := by
  unfold decodeClsym at hd
  split_ifs at hd <;> obtain rfl := Option.some.inj hd
  · exact elementAnswers_of_finish rfl (nextLength_answers _)
  · by_cases hzero : s.work.regs.cli = 0#9
    · exact ⟨_, if_pos hzero⟩
    · exact elementAnswers_of_finish (if_neg hzero) (readBits_bind_answers hr fun _ _ => repeatLengths_answers _ _ _)
  · exact elementAnswers_of_finish rfl (readBits_bind_answers hr fun _ _ => repeatLengths_answers _ _ _)
  · exact elementAnswers_of_finish rfl (readBits_bind_answers hr fun _ _ => repeatLengths_answers _ _ _)

theorem elementAnswers_llsym (hr : s.readable) (hd : decodeLlsym v = some i) : ElementAnswers i s := by
  unfold decodeLlsym at hd
  split_ifs at hd
  · obtain rfl := Option.some.inj hd
    exact elementAnswers_of_finish rfl (literal_answers _ s)
  · obtain rfl := Option.some.inj hd
    exact ⟨_, rfl⟩
  · exact elementAnswers_of_finish (exec_lenInstrs hd s) (lengthSymbol_answers _ hr)
  · obtain rfl := Option.some.inj hd
    exact ⟨_, rfl⟩

theorem elementAnswers_dsym (hr : s.readable) (ho : s.outWritten) (hlen : 3 ≤ s.work.regs.length.toNat)
    (hd : decodeDsym v = some i) : ElementAnswers i s := by
  unfold decodeDsym at hd
  split_ifs at hd with hdist
  · exact elementAnswers_of_finish (exec_distInstrs hd s) (distSymbol_answers hdist hr ho hlen)
  · obtain rfl := Option.some.inj hd
    exact ⟨_, rfl⟩

theorem elementAnswers_scanline (hw : s.inputWritten) (hd : decodeScanline v = some i) : ElementAnswers i s := by
  unfold decodeScanline at hd
  replace hd := decoded_of_domain hd
  iterate 7 refine of_decoded_row (P := (ElementAnswers · s)) hd ⟨_, rfl⟩ fun hd => ?_
  iterate 4
    refine of_decoded_row (P := (ElementAnswers · s)) hd
      (elementAnswers_of_finish rfl (unfilterRow_answers _ hw)) fun hd => ?_
  obtain rfl := Option.some.inj hd
  exact elementAnswers_of_finish rfl (unfilterRow_answers _ hw)

/-- Whatever the element in phase `p` is, its meaning gives a next state. -/
theorem elementAnswers_of_decode {p : Phase} (h : s.Consistent) (hp : s.phaseOk p) (hw : s.inputWritten)
    (hd : decode p.format v = some i) : ElementAnswers i s := by
  cases p with
  | zhdr => exact elementAnswers_zhdr hd
  | blk => exact elementAnswers_blk hd
  | stored =>
    obtain rfl := Option.some.inj hd
    exact elementAnswers_of_finish rfl (storedBlock_answers hp hw)
  | dynhdr =>
    obtain rfl := Option.some.inj hd
    exact elementAnswers_of_finish rfl (dynHeader_answers (hp.readable hw))
  | clsym => exact elementAnswers_clsym (hp.1.readable hw) hd
  | llsym => exact elementAnswers_llsym (hp.1.readable hw) hd
  | dsym =>
    obtain ⟨hr, -, hlen, -⟩ := hp
    exact elementAnswers_dsym (hr.readable hw) h.outWritten hlen hd
  | trailer => exact elementAnswers_trailer h.outWritten hd
  | scanline => exact elementAnswers_scanline hw hd

/-! ### The fetch -/

theorem fetchValue_answers {p : Phase} (hp : s.phaseOk p) (hw : s.inputWritten) : (fetchValue p s).Answers := by
  cases p with
  | zhdr =>
    refine (readIn_answers _ 0 hw).bind fun c u hc => ?_
    obtain ⟨rfl, -⟩ := readIn_eq_ok hc
    exact (readIn_answers _ 1 hw).bind fun _ _ _ => .ok
  | blk => exact readBits_answers 3 (State.readerOk.readable hp hw)
  | stored => exact .ok
  | dynhdr => exact .ok
  | clsym => exact decodeFrom_answers _ _ _ _ (hp.1.readable hw)
  | llsym => exact (decodeFrom_answers _ _ _ _ (hp.1.readable hw)).bind fun _ _ _ => .ok
  | dsym => exact (decodeFrom_answers _ _ _ _ (hp.1.readable hw)).bind fun _ _ _ => .ok
  | trailer => exact (readInBytes_answers _ _ _ hw).bind fun _ _ _ => .ok
  | scanline => exact (readIn_answers _ _ hw).bind fun _ _ _ => .ok

/-- Bytes read as one number, most significant first. -/
theorem foldl_bytes_lt (bs : List Byte) (acc : Nat) :
    bs.foldl (fun acc b => acc * 256 + b.toNat) acc < (acc + 1) * 256 ^ bs.length := by
  induction bs generalizing acc with
  | nil => simp
  | cons b rest ih =>
    have hb := b.isLt
    calc rest.foldl (fun acc b => acc * 256 + b.toNat) (acc * 256 + b.toNat)
        < (acc * 256 + b.toNat + 1) * 256 ^ rest.length := ih _
      _ ≤ (acc + 1) * 256 * 256 ^ rest.length := Nat.mul_le_mul_right _ (by omega)
      _ = (acc + 1) * 256 ^ (b :: rest).length := by rw [List.length_cons, pow_succ']; ring

/-- What is fetched lies in the domain of its format (R119). -/
theorem decode_isSome_of_fetchValue {p : Phase} {t : State} (hp : s.phaseOk p) (h : fetchValue p s = .ok v t) :
    (decode p.format v).isSome = true := by
  cases p with
  | zhdr =>
    obtain ⟨c, u, -, hf⟩ := Res.bind_eq_ok.mp h
    obtain ⟨f, u, -, hv⟩ := Res.bind_eq_ok.mp hf
    obtain ⟨rfl, -⟩ := Res.ok.inj hv
    have := c.isLt
    have := f.isLt
    exact decodeZhdr_isSome.mpr (by omega)
  | blk =>
    obtain ⟨⟨-, hfield⟩, -⟩ := readBits_eq_ok h
    exact decodeBlk_isSome.mpr (streamField_lt hfield)
  | stored => rfl
  | dynhdr => rfl
  | clsym =>
    obtain ⟨-, -, -, -, -, -, -, hsize, -⟩ := hp
    exact decodeClsym_isSome.mpr ((decodeSymbol_lt h).trans_eq hsize)
  | llsym =>
    obtain ⟨-, hsize, -⟩ := hp
    obtain ⟨w, u, hw, hv⟩ := Res.bind_eq_ok.mp h
    obtain ⟨rfl, -⟩ := Res.ok.inj hv
    exact decodeLlsym_isSome.mpr ((decodeSymbol_lt hw).trans_eq hsize)
  | dsym =>
    obtain ⟨-, ⟨-, -, hsize, -⟩, -⟩ := hp
    obtain ⟨w, u, hw, hv⟩ := Res.bind_eq_ok.mp h
    obtain ⟨rfl, -⟩ := Res.ok.inj hv
    exact decodeDsym_isSome.mpr ((decodeSymbol_lt hw).trans_eq hsize)
  | trailer =>
    obtain ⟨bs, u, hbs, hv⟩ := Res.bind_eq_ok.mp h
    obtain ⟨rfl, -⟩ := Res.ok.inj hv
    obtain ⟨-, -, hbytes⟩ := readInBytes_eq_ok hbs
    have hlt := foldl_bytes_lt bs 0
    rw [Memory.bytes_length hbytes] at hlt
    exact decodeZtrl_isSome.mpr hlt
  | scanline =>
    obtain ⟨b, u, -, hv⟩ := Res.bind_eq_ok.mp h
    obtain ⟨rfl, -⟩ := Res.ok.inj hv
    exact decodeScanline_isSome.mpr b.isLt

/-- A fetch moves working state only. -/
theorem fetchValue_frame {p : Phase} {t : State} (h : fetchValue p s = .ok v t) : t = { s with work := t.work } := by
  cases p with
  | zhdr =>
    obtain ⟨c, u, hc, hf⟩ := Res.bind_eq_ok.mp h
    obtain ⟨f, w, hf, hv⟩ := Res.bind_eq_ok.mp hf
    obtain ⟨rfl, -⟩ := readIn_eq_ok hc
    obtain ⟨rfl, -⟩ := readIn_eq_ok hf
    obtain ⟨-, rfl⟩ := Res.ok.inj hv
    rfl
  | blk =>
    obtain ⟨-, rfl⟩ := readBits_eq_ok h
    rfl
  | stored | dynhdr =>
    obtain ⟨-, rfl⟩ := Res.ok.inj h
    rfl
  | clsym =>
    obtain ⟨m, -, -, -, rfl, -⟩ := decodeFrom_eq_ok h
    rfl
  | llsym | dsym =>
    obtain ⟨w, u, hu, hv⟩ := Res.bind_eq_ok.mp h
    obtain ⟨m, -, -, -, rfl, -⟩ := decodeFrom_eq_ok hu
    obtain ⟨-, rfl⟩ := Res.ok.inj hv
    rfl
  | trailer =>
    obtain ⟨bs, u, hbs, hv⟩ := Res.bind_eq_ok.mp h
    obtain ⟨rfl, -⟩ := readInBytes_eq_ok hbs
    obtain ⟨-, rfl⟩ := Res.ok.inj hv
    rfl
  | scanline =>
    obtain ⟨b, u, hb, hv⟩ := Res.bind_eq_ok.mp h
    obtain ⟨rfl, -⟩ := readIn_eq_ok hb
    obtain ⟨-, rfl⟩ := Res.ok.inj hv
    rfl

/-- The engine's element gives a next state: its fetch raises, or gives an instruction whose meaning answers. -/
theorem engineStep_answers {p : Phase} (h : s.Consistent) (hp : s.phaseOk p) (hw : s.inputWritten) :
    ∃ t, engineStep p s = .next t := by
  have hsafe := fetchValue_safe h hp
  cases hv : fetchValue p s with
  | ok v u =>
    obtain ⟨i, hd⟩ := Option.isSome_iff_exists.mp (decode_isSome_of_fetchValue hp hv)
    have hwu : u.inputWritten := by rw [fetchValue_frame hv]; exact hw
    rw [hv] at hsafe
    cases hsafe with | ok hu =>
    rw [engineStep_of_fetch hv hd]
    exact elementAnswers_of_decode hu.1 hu.2 hwu hd
  | raise k u => exact ⟨_, engineStep_of_raise hv⟩
  | refuse r => exact absurd hv (fetchValue_answers hp hw r)

end

end Sys2Proof.Machine
end

section
open Sys2Proof Sys2Proof.Machine

/-- Settles O59: with no action of the host left, the step is nothing or the engine's element. -/
theorem engineNeverStops : Obligations.EngineNeverStops := by
  intro s h hhost hw
  rw [step_of_host_nil hhost]
  by_cases hb : s.isBusy = true
  · obtain ⟨p, hp⟩ := (State.isBusy_iff s).mp hb
    rw [idleOrEngine_of_busy hp]
    exact engineStep_answers h.consistent (h.phase p hp) hw
  · exact ⟨s, idleOrEngine_of_idle (by simpa using hb)⟩

end

section

/-! SUPPORT. The bit reader's other operations, the bytes of a bit sequence read back as bits, and the running
checksums. -/

namespace Sys2Proof.Machine

/-! ### Peeking, advancing and aligning -/

/-- Advancing inside the input. -/
theorem advance_of_room {n : Nat} {s : State} (h : s.work.rd.bitpos + n ≤ s.inputBits) :
    advance n s = .ok () (s.setBitpos (s.work.rd.bitpos + n)) := by
  rw [advance, if_neg (Nat.not_lt.mpr h)]

/-- Advancing past the end. -/
theorem advance_of_short {n : Nat} {s : State} (h : s.inputBits < s.work.rd.bitpos + n) :
    advance n s = .raise .unexpectedEnd s := by
  rw [advance, if_pos h]

/-- Inside the input the peeked field is the stream's field. -/
theorem peekField_of_room {s : State} {k n : Nat} (h : k + n ≤ s.inputBits) : peekField s k n = streamField s k n := by
  induction n generalizing k with
  | zero => rfl
  | succ m ih =>
    have hk : ¬ s.inputBits ≤ k := by omega
    rw [peekField, streamField, if_neg hk, ih (by omega)]

/-- With `n` bits left, `read_bits(n)` is `peek_bits(n)` followed by `advance(n)` (R133). -/
theorem readBits_eq_peekBits_advance {n : Nat} {s : State} (h : s.work.rd.bitpos + n ≤ s.inputBits) :
    readBits n s = (peekBits n s).bind fun v t => (advance n t).bind fun _ u => .ok v u := by
  rw [readBits, if_neg (Nat.not_lt.mpr h), peekBits, peekField_of_room h]
  cases streamField s s.work.rd.bitpos n with
  | none => rfl
  | some v => simp only [Res.bind_ok, advance_of_room h]

/-! ### The bits of written bytes -/

/-- The bit sequence of a byte sequence, each byte's least significant bit first (R11, R130). -/
def unpackBits (bs : List Byte) : List Bool := bs.flatMap fun b => writeBits b.toNat 8

@[simp] theorem unpackBits_nil : unpackBits [] = [] := rfl

@[simp] theorem unpackBits_cons (b : Byte) (bs : List Byte) :
    unpackBits (b :: bs) = writeBits b.toNat 8 ++ unpackBits bs := rfl

@[simp] theorem length_writeBits (v n : Nat) : (writeBits v n).length = n := by simp [writeBits]

@[simp] theorem length_unpackBits (bs : List Byte) : (unpackBits bs).length = 8 * bs.length := by
  induction bs with
  | nil => rfl
  | cons b rest ih => rw [unpackBits_cons, List.length_append, length_writeBits, ih, List.length_cons]; omega

theorem getElem?_unpackBits (bs : List Byte) (k : Nat) :
    (unpackBits bs)[k]? = bs[k / 8]?.map fun b => b.getLsbD (k % 8) := by
  induction bs generalizing k with
  | nil => rfl
  | cons b rest ih =>
    rw [unpackBits_cons, List.getElem?_append, length_writeBits]
    split
    · rename_i hk
      simp [writeBits, hk, Nat.div_eq_of_lt hk, Nat.mod_eq_of_lt hk, BitVec.testBit_toNat]
    · rename_i hk
      rw [ih, show k / 8 = (k - 8) / 8 + 1 by omega, List.getElem?_cons_succ, show (k - 8) % 8 = k % 8 by omega]

/-- The active input's bits, when it starts with IN, are the bits of the bytes in IN. -/
theorem streamBit_ofBytes {s : State} {bs : List Byte} (hin : s.inBuf = Memory.ofBytes 0 bs) (hbase : s.work.rd.base = 0)
    (k : Nat) : streamBit s k = (unpackBits bs)[k]? := by
  rw [streamBit, hin, hbase, Memory.read_ofBytes, getElem?_unpackBits]

theorem add_bit_lt {v n : Nat} (h : v < 2 ^ n) (b : Bool) : v + b.toNat * 2 ^ n < 2 ^ (n + 1) := by
  have := Nat.mul_le_mul_right (2 ^ n) (Bool.toNat_le b)
  rw [Nat.pow_succ]; omega

/-- Writing one more bit above the `n` written ones. -/
theorem writeBits_add_bit {v n : Nat} (h : v < 2 ^ n) (b : Bool) :
    writeBits (v + b.toNat * 2 ^ n) (n + 1) = writeBits v n ++ [b] := by
  rw [Nat.add_comm, Nat.mul_comm]
  simp only [writeBits, List.range_succ, List.map_append, List.map_cons, List.map_nil, Nat.testBit_two_pow_mul_add _ h]
  congr 1
  · exact List.map_congr_left fun i hi => by rw [if_pos (List.mem_range.mp hi)]
  · cases b <;> simp

/-- A number written wider than it is ends with zeros. -/
theorem writeBits_of_lt {v n m : Nat} (h : v < 2 ^ n) (hm : n ≤ m) :
    writeBits v m = writeBits v n ++ List.replicate (m - n) false := by
  induction m, hm using Nat.le_induction with
  | base => simp
  | succ m hm ih =>
    have hstep := writeBits_add_bit (h.trans_le (Nat.pow_le_pow_right (by decide) hm)) false
    rw [Bool.toNat_false, Nat.zero_mul, Nat.add_zero] at hstep
    rw [hstep, ih, List.append_assoc, Nat.succ_sub hm, List.replicate_succ']

/-- The bytes packed from the `n` bits of `v` and `bits` hold these bits and the zeros that fill the last byte. -/
theorem unpackBits_packFrom {n v : Nat} (bits : List Bool) (hn : n < 8) (hv : v < 2 ^ n) :
    unpackBits (packFrom n v bits) = writeBits v n ++ bits ++ alignBits (n + bits.length) := by
  induction bits generalizing n v with
  | nil =>
    rw [packFrom]
    split
    · rename_i hn0
      subst hn0
      rfl
    · have hpad : alignPad n = 8 - n := by unfold alignPad; omega
      have hbyte : (BitVec.ofNat 8 v).toNat = v := Nat.mod_eq_of_lt (hv.trans (Nat.pow_lt_pow_right (by decide) hn))
      rw [unpackBits_cons, hbyte, writeBits_of_lt hv hn.le, List.length_nil, Nat.add_zero, alignBits, hpad]
      simp
  | cons b rest ih =>
    have hbits := writeBits_add_bit hv b
    have hsum := add_bit_lt hv b
    rw [packFrom]
    split
    · rename_i hn7
      subst hn7
      have hpad : alignPad (7 + (rest.length + 1)) = alignPad (0 + rest.length) := by unfold alignPad; omega
      have hbyte : (BitVec.ofNat 8 (v + b.toNat * 128)).toNat = v + b.toNat * 2 ^ 7 := Nat.mod_eq_of_lt hsum
      rw [unpackBits_cons, hbyte, hbits, ih (by decide) (by decide), List.length_cons, alignBits, alignBits, hpad]
      simp [writeBits]
    · rw [ih (by omega) hsum, hbits, List.length_cons, Nat.add_assoc n 1, Nat.add_comm 1]
      simp

/-- The delivered bytes hold the bits written and the zeros up to the next byte (R136, R139). -/
theorem unpackBits_finalize (bits : List Bool) : unpackBits (finalize bits) = bits ++ alignBits bits.length := by
  rw [finalize, unpackBits_packFrom bits (by decide) (by decide), Nat.zero_add]
  rfl

/-- Aligning fills the last byte (R138). -/
theorem add_alignPad (w : Nat) : w + alignPad w = 8 * ((w + 7) / 8) := by
  unfold alignPad; omega

theorem length_finalize (bits : List Bool) : (finalize bits).length = (bits.length + 7) / 8 := by
  have h := congrArg List.length (unpackBits_finalize bits)
  rw [length_unpackBits, List.length_append, alignBits, List.length_replicate, add_alignPad] at h
  omega

/-! ### Checksums -/

theorem crcRun_eq_foldl (r : Word) (bs : List Byte) : crcRun r bs = bs.foldl crcStep r := by
  induction bs generalizing r with
  | nil => rfl
  | cons b rest ih => exact ih (crcStep r b)

theorem crcRun_append (r : Word) (xs ys : List Byte) : crcRun r (xs ++ ys) = crcRun (crcRun r xs) ys := by
  simp only [crcRun_eq_foldl, List.foldl_append]

theorem adlerRun_append (s1 s2 : Nat) (xs ys : List Byte) :
    adlerRun s1 s2 (xs ++ ys) = adlerRun (adlerRun s1 s2 xs).1 (adlerRun s1 s2 xs).2 ys := by
  induction xs generalizing s1 s2 with
  | nil => rfl
  | cons b rest ih => exact ih _ _

/-- From any halves of a word, reduced or not, the sums fit the halves of a word again: after a byte they are reduced. -/
theorem adlerRun_lt_half {s1 s2 : Nat} (bs : List Byte) (h1 : s1 < 2 ^ 16) (h2 : s2 < 2 ^ 16) :
    (adlerRun s1 s2 bs).1 < 2 ^ 16 ∧ (adlerRun s1 s2 bs).2 < 2 ^ 16 := by
  cases bs with
  | nil => exact ⟨h1, h2⟩
  | cons b rest =>
    have hmod (x : Nat) : x % Config.adlerMod < Config.adlerMod := Nat.mod_lt x (by decide)
    obtain ⟨hr1, hr2⟩ := adlerRun_lt rest (hmod (s1 + b.toNat)) (hmod (s2 + (s1 + b.toNat) % Config.adlerMod))
    exact ⟨hr1.trans (by decide), hr2.trans (by decide)⟩

theorem adlerUpdate_append (a : Word) (xs ys : List Byte) :
    adlerUpdate a (xs ++ ys) = adlerUpdate (adlerUpdate a xs) ys := by
  obtain ⟨h1, h2⟩ := adlerRun_lt_half xs (a.extractLsb' 0 16).isLt (a.extractLsb' 16 16).isLt
  simp only [adlerUpdate, adlerRun_append, BitVec.extractLsb'_append_eq_right, BitVec.extractLsb'_append_eq_left,
    BitVec.toNat_ofNat, Nat.mod_eq_of_lt h1, Nat.mod_eq_of_lt h2]

end Sys2Proof.Machine
end

section
open Sys2Proof Sys2Proof.Machine

/-- Settles O12: the field's bits and bound are those of the stream's field. -/
theorem readBitsGivesTheNextField : Obligations.ReadBitsGivesTheNextField := fun _ _ =>
  ⟨readBits_of_short, fun _ h => ⟨readBits_of_nextField h, streamField_lt h.2, streamField_testBit h.2⟩⟩

/-- Settles O13: inside the input, where `advance` succeeds, the peeked field is the field read. -/
theorem readIsPeekThenAdvance : Obligations.ReadIsPeekThenAdvance := fun _ _ =>
  ⟨advance_of_short, fun h => ⟨advance_of_room h, readBits_eq_peekBits_advance h⟩⟩

/-- Settles O14: the input's length is a multiple of 8, so rounding up does not pass it. -/
theorem byteAlignRoundsUp : Obligations.ByteAlignRoundsUp := by
  intro s
  refine ⟨8 * ((s.work.rd.bitpos + 7) / 8), rfl, Nat.mul_mod_right 8 _, ?_, ?_, fun h => ?_⟩
  · omega
  · omega
  · rw [State.inputBits] at h ⊢
    omega

/-- Settles O15: the delivered bytes unpack to the bits written and the alignment's zeros. -/
theorem writtenBitsReadBack : Obligations.WrittenBitsReadBack := by
  intro bits s hin hbase
  refine ⟨length_finalize bits, fun k => ?_⟩
  rw [streamBit_ofBytes hin hbase, unpackBits_finalize, List.getElem?_append, ← add_alignPad, alignBits,
    List.getElem?_replicate]
  split
  · rfl
  · have : k - bits.length < alignPad bits.length ↔ k < bits.length + alignPad bits.length := by omega
    simp only [this]

/-- Settles O25: the register's run is a fold over the bytes. -/
theorem crcIsRunning : Obligations.CrcIsRunning :=
  ⟨fun r xs ys => (crcRun_append r xs ys).symm, by decide, by decide, by decide +kernel⟩

/-- Settles O26: the sums always fit the word that carries them from one update to the next. -/
theorem adlerIsRunning : Obligations.AdlerIsRunning :=
  ⟨fun a xs ys => (adlerUpdate_append a xs ys).symm, by decide, by decide⟩

end

section

/-! SUPPORT. The symbol decoder: code words as bits, words that come next in the input, and the loop's outcomes. -/

namespace Sys2Proof.Machine

/-! ### Codes written as bits -/

@[simp] theorem length_writeCode (c n : Nat) : (writeCode c n).length = n := by simp [writeCode]

/-- The first `n` of `n + m` bits are the number without its `m` low bits. -/
theorem writeCode_add (c n m : Nat) : writeCode c (n + m) = writeCode (c / 2 ^ m) n ++ writeCode c m := by
  simp only [writeCode, List.range_add, List.map_append, List.map_map, Nat.testBit_div_two_pow]
  congr 1
  · refine List.map_congr_left fun i hi => congrArg c.testBit ?_
    have := List.mem_range.mp hi
    omega
  · refine List.map_congr_left fun i _ => congrArg c.testBit ?_
    simp only [Nat.sub_sub]
    omega

/-- A number of `n` bits is determined by them. -/
theorem writeCode_inj {c d n : Nat} (hc : c < 2 ^ n) (hd : d < 2 ^ n) (h : writeCode c n = writeCode d n) : c = d := by
  refine Nat.eq_of_testBit_eq fun i => ?_
  by_cases hi : i < n
  · have := List.map_inj_left.mp h (n - 1 - i) (List.mem_range.mpr (by omega))
    rwa [show n - 1 - (n - 1 - i) = i by omega] at this
  · have hn : 2 ^ n ≤ 2 ^ i := Nat.pow_le_pow_right (by decide) (by omega)
    rw [Nat.testBit_lt_two_pow (hc.trans_le hn), Nat.testBit_lt_two_pow (hd.trans_le hn)]

/-- A code that begins another is the other without its last bits. -/
theorem eq_div_of_writeCode_prefix {c d n m : Nat} (hc : c < 2 ^ n) (hd : d < 2 ^ (n + m))
    (h : writeCode c n <+: writeCode d (n + m)) : c = d / 2 ^ m := by
  rw [writeCode_add] at h
  have heq : writeCode c n = writeCode (d / 2 ^ m) n :=
    (List.prefix_of_prefix_length_le h (List.prefix_append _ _) (by simp)).eq_of_length (by simp)
  refine writeCode_inj hc ?_ heq
  rwa [Nat.div_lt_iff_lt_mul (Nat.two_pow_pos m), ← Nat.pow_add]

namespace HuffTable
variable {T : HuffTable} {v : Nat}

theorem word_eq (T : HuffTable) (v : Nat) : T.word v = writeCode (T.code.getD v 0) (T.len.getD v 0) := rfl

@[simp] theorem length_word (T : HuffTable) (v : Nat) : (T.word v).length = T.len.getD v 0 := length_writeCode _ _

theorem lt_length_of_used (h : T.used v) : v < T.len.length := by
  by_contra hv
  exact h (List.getD_eq_default _ _ (Nat.le_of_not_lt hv))

theorem len_le_maxLen (T : HuffTable) (v : Nat) : T.len.getD v 0 ≤ T.maxLen := by
  by_cases hv : v < T.len.length
  · rw [List.getD_eq_getElem _ _ hv, maxLen, ← List.foldr_eq_foldl]
    exact List.le_max_of_le' 0 (List.getElem_mem hv) le_rfl
  · rw [List.getD_eq_default _ _ (Nat.le_of_not_lt hv)]
    exact Nat.zero_le _

/-- A symbol that is found has the length and the code searched for. -/
theorem find_eq_some {n c : Nat} (h : T.find n c = some v) : T.len.getD v 0 = n ∧ T.code.getD v 0 = c := by
  obtain ⟨hl, hc⟩ := findSymbol_eq_some h
  rw [Nat.sub_zero] at hl hc
  simp [hl, hc]

/-- When none is found, no used symbol has the length and the code. -/
theorem find_eq_none {n c : Nat} (hT : T.sound) (h : T.find n c = none) (hv : T.used v) :
    ¬ (T.len.getD v 0 = n ∧ T.code.getD v 0 = c) := by
  have hl := lt_length_of_used hv
  have hc : v < T.code.length := hT.1 ▸ hl
  simpa [hl, hc] using findSymbol_eq_none h v

end HuffTable

/-! ### The bits that come next -/

theorem streamBit_eq_none_of_streamField {s : State} {k : Nat} (h : streamField s k 1 = none) : streamBit s k = none := by
  cases hb : streamBit s k with
  | none => rfl
  | some b => simp [streamField, hb] at h

namespace State
variable {s : State}

/-- Of two bit strings that both come next the shorter begins the longer. -/
theorem nextBits_prefix {as bs : List Bool} (ha : s.nextBits as) (hb : s.nextBits bs) (h : as.length ≤ bs.length) :
    as <+: bs := by
  refine List.prefix_iff_getElem?.mpr fun i hi => ?_
  rw [← hb.2 i (hi.trans_le h), ha.2 i hi, List.getElem?_eq_getElem hi]

theorem nextBits_nil (h : s.work.rd.bitpos ≤ s.inputBits) : s.nextBits [] := ⟨h, fun _ hi => absurd hi (by simp)⟩

theorem nextBits_concat {bs : List Bool} {b : Bool} (h : s.nextBits bs)
    (hroom : s.work.rd.bitpos + bs.length + 1 ≤ s.inputBits)
    (hb : streamBit s (s.work.rd.bitpos + bs.length) = some b) : s.nextBits (bs ++ [b]) := by
  refine ⟨by simpa [Nat.add_assoc] using hroom, fun i hi => ?_⟩
  rw [List.length_append, List.length_singleton] at hi
  rcases Nat.lt_succ_iff_lt_or_eq.mp hi with hlt | rfl
  · rw [List.getElem?_append_left hlt, h.2 i hlt]
  · rw [List.getElem?_concat_length, hb]

end State

/-- Of a table in which no word begins another at most one code word comes next. -/
theorem HuffTable.eq_of_nextBits {T : HuffTable} {s : State} {a b : Nat} (hT : T.noWordBeginsAnother) (ha : T.used a)
    (hb : T.used b) (hna : s.nextBits (T.word a)) (hnb : s.nextBits (T.word b)) : a = b := by
  by_contra hab
  rcases Nat.le_total (T.word a).length (T.word b).length with h | h
  · exact hT a b ha hb hab (State.nextBits_prefix hna hnb h)
  · exact hT b a hb ha (Ne.symm hab) (State.nextBits_prefix hnb hna h)

/-! ### The loop of the symbol decoder -/

/-- No code word longer than `n` and at most `m` bits long comes next. -/
def HuffTable.noWordNext (T : HuffTable) (s : State) (n m : Nat) : Prop :=
  ∀ v, n < T.len.getD v 0 → T.len.getD v 0 ≤ m → ¬ s.nextBits (T.word v)

/-- What the loop of R165, started at `s`, can give when `n` bits are read without a match and the longest length is
`m`: the symbol whose word comes next, or, with no such symbol, an error. It refuses only an input with an unwritten
byte. -/
inductive DecodeOutcome (T : HuffTable) (s : State) (n m : Nat) : Res Nat → Prop
  | found {v : Nat} (hv : T.used v) (hnext : s.nextBits (T.word v)) :
      DecodeOutcome T s n m (.ok v (s.setBitpos (s.work.rd.bitpos + T.len.getD v 0)))
  | invalid (hno : T.noWordNext s n m) (hroom : s.work.rd.bitpos + m ≤ s.inputBits) :
      DecodeOutcome T s n m (.raise .invalidSymbol (s.setBitpos (s.work.rd.bitpos + m)))
  | ended {t : State} (hno : T.noWordNext s n m) (hshort : s.inputBits < s.work.rd.bitpos + m) :
      DecodeOutcome T s n m (.raise .unexpectedEnd t)
  | unwritten {r : Refusal} {k : Nat} (hno : T.noWordNext s n m) (hk : k < s.inputBits) (hnone : streamBit s k = none) :
      DecodeOutcome T s n m (.refuse r)

section
variable {T : HuffTable} {s : State} {n m c : Nat}

theorem DecodeOutcome.weaken {x : Res Nat} (h : DecodeOutcome T s (n + 1) m x)
    (hno : T.noWordNext s (n + 1) m → T.noWordNext s n m) : DecodeOutcome T s n m x := by
  cases h with
  | found hv hnext => exact .found hv hnext
  | invalid h1 hroom => exact .invalid (hno h1) hroom
  | ended h1 hshort => exact .ended (hno h1) hshort
  | unwritten h1 hk hnone => exact .unwritten (hno h1) hk hnone

/-- With the number `c` read in `n` bits, and no symbol of this length and code, no word of `n` bits comes next. -/
theorem HuffTable.noWordNext_of_find_eq_none (hT : T.sound) (hc : c < 2 ^ (n + 1))
    (hbits : s.nextBits (writeCode c (n + 1))) (hf : T.find (n + 1) c = none) (hno : T.noWordNext s (n + 1) m) :
    T.noWordNext s n m := by
  intro v hlt hle hnext
  by_cases hlen : T.len.getD v 0 = n + 1
  · have hv : T.used v := by unfold HuffTable.used; omega
    refine HuffTable.find_eq_none hT hf hv ⟨hlen, ?_⟩
    have hlength : (T.word v).length = (writeCode c (n + 1)).length := by
      rw [HuffTable.length_word, hlen, length_writeCode]
    have hword := (State.nextBits_prefix hnext hbits hlength.le).eq_of_length hlength
    rw [HuffTable.word_eq, hlen] at hword
    exact writeCode_inj (hlen ▸ hT.2 v hv) hc hword
  · exact hno v (by omega) hle hnext

/-- A bit read behind the `n` bits of `c` makes them the `n + 1` bits of `2 * c + b`. -/
theorem nextBits_of_readBit {b : Nat} {t : State} (hbits : s.nextBits (writeCode c n))
    (hr : readBits 1 (s.setBitpos (s.work.rd.bitpos + n)) = .ok b t) :
    b < 2 ∧ s.nextBits (writeCode (2 * c + b) (n + 1)) ∧ t = s.setBitpos (s.work.rd.bitpos + (n + 1)) := by
  obtain ⟨⟨hroom, hfield⟩, rfl⟩ := readBits_eq_ok hr
  have hb : b < 2 := streamField_lt hfield
  have hbit : streamBit s (s.work.rd.bitpos + n) = some (b.testBit 0) := streamField_testBit hfield 0 (by decide)
  refine ⟨hb, ?_, rfl⟩
  have hlow : (2 * c + b) / 2 ^ 1 = c := by omega
  have hlast : writeCode (2 * c + b) 1 = [b.testBit 0] := by
    simp [writeCode, Nat.testBit_zero, Nat.add_mod]
  rw [writeCode_add, hlow, hlast]
  exact State.nextBits_concat hbits (by simpa using hroom) (by simpa using hbit)

/-- The loop of R165 gives one of these outcomes. -/
theorem decodeFrom_outcome (hT : T.sound) (fuel : Nat) (hc : c < 2 ^ n) (hbits : s.nextBits (writeCode c n)) :
    DecodeOutcome T s n (n + fuel) (decodeFrom T fuel n c (s.setBitpos (s.work.rd.bitpos + n))) := by
  induction fuel generalizing n c with
  | zero =>
    refine .invalid (fun v h1 h2 => ?_) (by simpa using hbits.1)
    omega
  | succ k ih =>
    rw [decodeFrom]
    cases hr : readBits 1 (s.setBitpos (s.work.rd.bitpos + n)) with
    | raise e t =>
      obtain ⟨rfl, -, hshort⟩ := readBits_eq_raise hr
      have hshort : s.inputBits < s.work.rd.bitpos + n + 1 := hshort
      refine .ended (fun v h1 _ hnext => ?_) (by omega)
      have := hnext.1
      rw [HuffTable.length_word] at this
      omega
    | refuse r =>
      obtain ⟨-, hroom, hnone⟩ := readBits_eq_refuse hr
      have hroom : s.work.rd.bitpos + n + 1 ≤ s.inputBits := hroom
      have hbit : streamBit s (s.work.rd.bitpos + n) = none := streamBit_eq_none_of_streamField hnone
      refine .unwritten (fun v h1 _ hnext => ?_) hroom hbit
      have hn : n < (T.word v).length := h1.trans_eq (T.length_word v).symm
      have := hnext.2 n hn
      rw [hbit, List.getElem?_eq_getElem hn] at this
      cases this
    | ok b t =>
      obtain ⟨hb, hnext, rfl⟩ := nextBits_of_readBit hbits hr
      have hc' : 2 * c + b < 2 ^ (n + 1) := by rw [Nat.pow_succ]; omega
      simp only [Res.bind_ok]
      cases hf : T.find (n + 1) (2 * c + b) with
      | some v =>
        obtain ⟨hlen, hcode⟩ := HuffTable.find_eq_some hf
        rw [← hlen]
        refine .found ?_ ?_
        · unfold HuffTable.used; omega
        · rwa [HuffTable.word_eq, hlen, hcode]
      | none =>
        rw [show n + (k + 1) = n + 1 + k by omega]
        exact (ih hc' hnext).weaken (HuffTable.noWordNext_of_find_eq_none hT hc' hnext hf)

theorem decodeSymbol_outcome (hT : T.sound) (h : s.work.rd.bitpos ≤ s.inputBits) :
    DecodeOutcome T s 0 T.maxLen (decodeSymbol T s) := by
  have := decodeFrom_outcome hT T.maxLen (Nat.two_pow_pos 0) (State.nextBits_nil h : s.nextBits (writeCode 0 0))
  rwa [Nat.zero_add] at this

/-- A used symbol whose word comes next is one the decoder tries. -/
theorem HuffTable.not_noWordNext {v : Nat} (hv : T.used v) (hnext : s.nextBits (T.word v)) :
    ¬ T.noWordNext s 0 T.maxLen :=
  fun hno => hno v (Nat.pos_of_ne_zero hv) (T.len_le_maxLen v) hnext

/-- The symbol whose word comes next is decoded (R165). -/
theorem decodeSymbol_of_nextBits {v : Nat} (hT : T.sound) (hpf : T.noWordBeginsAnother) (hv : T.used v)
    (hnext : s.nextBits (T.word v)) :
    decodeSymbol T s = .ok v (s.setBitpos (s.work.rd.bitpos + T.len.getD v 0)) := by
  have hout := decodeSymbol_outcome hT (Nat.le_of_add_right_le hnext.1)
  generalize decodeSymbol T s = x at hout ⊢
  cases hout with
  | found hw hnextw => rw [HuffTable.eq_of_nextBits hpf hw hv hnextw hnext]
  | invalid hno => exact absurd hno (HuffTable.not_noWordNext hv hnext)
  | ended hno => exact absurd hno (HuffTable.not_noWordNext hv hnext)
  | unwritten hno => exact absurd hno (HuffTable.not_noWordNext hv hnext)

/-- An empty table has no symbol to give (R167). -/
theorem decodeSymbol_of_empty (h : T.maxLen = 0) : decodeSymbol T s = .raise .invalidSymbol s := by
  rw [decodeSymbol, h, decodeFrom]

/-- With no used symbol's word next and room for the longest, the longest length is read in vain (R166). -/
theorem decodeSymbol_of_noWord_room (hT : T.sound) (hno : ∀ v, T.used v → ¬ s.nextBits (T.word v))
    (hw : ∀ k, k < s.inputBits → (streamBit s k).isSome = true) (hroom : s.work.rd.bitpos + T.maxLen ≤ s.inputBits) :
    decodeSymbol T s = .raise .invalidSymbol (s.setBitpos (s.work.rd.bitpos + T.maxLen)) := by
  have hout := decodeSymbol_outcome hT (Nat.le_of_add_right_le hroom)
  generalize decodeSymbol T s = x at hout ⊢
  cases hout with
  | found hv hnext => exact absurd hnext (hno _ hv)
  | invalid => rfl
  | ended _ hshort => omega
  | unwritten _ hk hnone => exact absurd hnone (Option.isSome_iff_ne_none.mp (hw _ hk))

/-- With no used symbol's word next and the input ending before the longest length, the input ends first (R167). -/
theorem decodeSymbol_of_noWord_short (hT : T.sound) (hno : ∀ v, T.used v → ¬ s.nextBits (T.word v))
    (hw : ∀ k, k < s.inputBits → (streamBit s k).isSome = true) (hpos : s.work.rd.bitpos ≤ s.inputBits)
    (hshort : s.inputBits < s.work.rd.bitpos + T.maxLen) : ∃ t, decodeSymbol T s = .raise .unexpectedEnd t := by
  have hout := decodeSymbol_outcome hT hpos
  generalize decodeSymbol T s = x at hout ⊢
  cases hout with
  | found hv hnext => exact absurd hnext (hno _ hv)
  | invalid _ hroom => omega
  | ended => exact ⟨_, rfl⟩
  | unwritten _ hk hnone => exact absurd hnone (Option.isSome_iff_ne_none.mp (hw _ hk))

end

end Sys2Proof.Machine
end

section
open Sys2Proof Sys2Proof.Machine

/-- Settles O17: the loop's outcomes, with the one word that can come next or with none. -/
theorem symbolDecoderFindsTheNextWord : Obligations.SymbolDecoderFindsTheNextWord := fun _ _ hT hpf =>
  ⟨fun _ hv hnext => decodeSymbol_of_nextBits hT hpf hv hnext, decodeSymbol_of_empty, fun hno hw =>
    ⟨decodeSymbol_of_noWord_room hT hno hw, decodeSymbol_of_noWord_short hT hno hw⟩⟩

end

section

/-! SUPPORT. The canonical code assignment: each code word's place in the code space. -/

namespace Sys2Proof.Machine

/-! ### The used symbols in order -/

/-- The order of R162 on symbols with their lengths: by length, then by symbol. -/
def comesBefore (p q : Nat × Nat) : Prop := p.2 < q.2 ∨ p.2 = q.2 ∧ p.1 < q.1

theorem comesBefore.len_le {p q : Nat × Nat} (h : comesBefore p q) : p.2 ≤ q.2 := h.elim Nat.le_of_lt fun h => h.1.le

theorem comesBefore.irrefl (p : Nat × Nat) : ¬ comesBefore p p := by simp [comesBefore]

theorem comesBefore.ne {p q : Nat × Nat} (h : comesBefore p q) : p ≠ q := fun heq => irrefl q (heq ▸ h)

theorem comesBefore.asymm {p q : Nat × Nat} (h : comesBefore p q) : ¬ comesBefore q p := by
  unfold comesBefore at *
  omega

theorem mem_usedSymbols {limit s l : Nat} {len : List Nat} :
    (s, l) ∈ usedSymbols limit len ↔ len[s]? = some l ∧ 0 < l ∧ l ≤ limit := by
  simp only [usedSymbols, List.mem_flatMap, List.mem_range, List.mem_map, List.mem_filter, decide_eq_true_eq,
    List.mem_zipIdx_iff_getElem?, Prod.mk.injEq]
  constructor
  · rintro ⟨i, hi, ⟨l', s'⟩, ⟨hget, hl⟩, rfl, rfl⟩
    exact ⟨hget, by omega, by omega⟩
  · rintro ⟨hget, hpos, hle⟩
    exact ⟨l - 1, by omega, (l, s), ⟨hget, by omega⟩, rfl, rfl⟩

theorem usedSymbols_pairwise (limit : Nat) (len : List Nat) : (usedSymbols limit len).Pairwise comesBefore := by
  have hidx : len.zipIdx.Pairwise fun p q => p.2 < q.2 := by
    rw [← List.pairwise_map (f := Prod.snd) (R := (· < ·)), List.zipIdx_map_snd]
    exact List.pairwise_lt_range'
  refine List.pairwise_flatMap.mpr ⟨fun l _ => List.pairwise_map.mpr ?_, List.pairwise_lt_range.imp ?_⟩
  · refine (hidx.filter _).imp_of_mem fun hp hq hlt => .inr ⟨?_, hlt⟩
    exact (of_decide_eq_true (List.mem_filter.mp hp).2).trans (of_decide_eq_true (List.mem_filter.mp hq).2).symm
  · intro i j hij p hp q hq
    simp only [List.mem_map, List.mem_filter, decide_eq_true_eq] at hp hq
    obtain ⟨p', ⟨-, hp'⟩, rfl⟩ := hp
    obtain ⟨q', ⟨-, hq'⟩, rfl⟩ := hq
    exact .inl (by simp only [hp', hq']; omega)

/-- The symbols of R162, in another order, are those of a nonzero length. -/
theorem usedSymbols_perm {limit : Nat} {len : List Nat} (h : ∀ l ∈ len, l ≤ limit) :
    (usedSymbols limit len).Perm ((len.zipIdx.filter fun p => p.1 ≠ 0).map Prod.swap) := by
  have hnodup : ((len.zipIdx.filter fun p => p.1 ≠ 0).map Prod.swap).Nodup :=
    ((List.Nodup.of_map Prod.snd (List.nodup_zipIdx_map_snd len)).filter _).map Prod.swap_injective
  refine (List.perm_ext_iff_of_nodup ((usedSymbols_pairwise limit len).imp comesBefore.ne) hnodup).mpr
    fun ⟨s, l⟩ => ?_
  simp only [mem_usedSymbols, List.mem_map, List.mem_filter, List.mem_zipIdx_iff_getElem?, decide_eq_true_eq]
  constructor
  · rintro ⟨hget, hpos, -⟩
    exact ⟨(l, s), ⟨hget, hpos.ne'⟩, rfl⟩
  · rintro ⟨p, ⟨hget, hne⟩, heq⟩
    obtain ⟨rfl, rfl⟩ := Prod.mk.inj heq
    exact ⟨hget, Nat.pos_of_ne_zero hne, h _ (List.mem_of_getElem? hget)⟩

/-! ### The code space -/

/-- The part of the code space that the code words of these symbols take, in words of the longest length. -/
def codeSpan (limit : Nat) (us : List (Nat × Nat)) : Nat := (us.map fun p => 2 ^ (limit - p.2)).sum

@[simp] theorem codeSpan_nil (limit : Nat) : codeSpan limit [] = 0 := rfl

@[simp] theorem codeSpan_cons (limit : Nat) (p : Nat × Nat) (us : List (Nat × Nat)) :
    codeSpan limit (p :: us) = 2 ^ (limit - p.2) + codeSpan limit us := rfl

@[simp] theorem codeSpan_append (limit : Nat) (us vs : List (Nat × Nat)) :
    codeSpan limit (us ++ vs) = codeSpan limit us + codeSpan limit vs := by
  simp [codeSpan]

/-- All used symbols together take the Kraft sum. -/
theorem codeSpan_usedSymbols {limit : Nat} {len : List Nat} (h : ∀ l ∈ len, l ≤ limit) :
    codeSpan limit (usedSymbols limit len) = kraftSum limit len := by
  have hlen : len.filter (fun l => l ≠ 0) = (len.zipIdx.filter fun p => p.1 ≠ 0).map Prod.fst := by
    conv_lhs => rw [← List.zipIdx_map_fst 0 len]
    exact List.filter_map
  rw [codeSpan, ((usedSymbols_perm h).map _).sum_nat, kraftSum, hlen, List.map_map, List.map_map]
  rfl

/-! ### The codes assigned -/

/-- Going over to a longer length keeps the place in the code space. -/
theorem shiftLeft_mul_two_pow {limit l0 l : Nat} (c : Nat) (h0 : l0 ≤ l) (hl : l ≤ limit) :
    c <<< (l - l0) * 2 ^ (limit - l) = c * 2 ^ (limit - l0) := by
  rw [Nat.shiftLeft_eq, Nat.mul_assoc, ← Nat.pow_add]
  congr 2
  omega

/-- A code word starts, in the code space, where the words of the symbols before it end. -/
theorem assignFrom_lookup {limit l0 c s l : Nat} {pre post : List (Nat × Nat)} (hl : l ≤ limit)
    (hsorted : (l0 :: (pre ++ (s, l) :: post).map Prod.snd).Pairwise (· ≤ ·)) (hs : ∀ p ∈ pre, p.1 ≠ s) :
    ∃ k, (assignFrom l0 c (pre ++ (s, l) :: post)).lookup s = some k ∧
      k * 2 ^ (limit - l) = c * 2 ^ (limit - l0) + codeSpan limit pre := by
  induction pre generalizing l0 c with
  | nil =>
    refine ⟨c <<< (l - l0), by simp [assignFrom], ?_⟩
    exact shiftLeft_mul_two_pow c (List.rel_of_pairwise_cons hsorted (by simp)) hl
  | cons p pre ih =>
    obtain ⟨s1, l1⟩ := p
    have htail := hsorted.of_cons
    have h0 : l0 ≤ l1 := List.rel_of_pairwise_cons hsorted (by simp)
    have h1 : l1 ≤ limit := (List.rel_of_pairwise_cons htail (by simp)).trans hl
    obtain ⟨k, hk, hspan⟩ := ih (c := c <<< (l1 - l0) + 1) htail fun p hp => hs p (List.mem_cons_of_mem _ hp)
    refine ⟨k, ?_, ?_⟩
    · have hne : (s == s1) = false := beq_false_of_ne (hs (s1, l1) List.mem_cons_self).symm
      rw [List.cons_append, assignFrom, List.lookup_cons, hne]
      exact hk
    · rw [hspan, Nat.add_mul, shiftLeft_mul_two_pow c h0 h1, codeSpan_cons, Nat.one_mul, Nat.add_assoc]

section
variable {limit : Nat} {len : List Nat}

theorem buildCodes_code_mul {s l : Nat} {pre post : List (Nat × Nat)}
    (h : usedSymbols limit len = pre ++ (s, l) :: post) :
    (buildCodes limit len).code.getD s 0 * 2 ^ (limit - l) = codeSpan limit pre := by
  have hmem {p : Nat × Nat} (hp : p ∈ pre ++ (s, l) :: post) := mem_usedSymbols.mp (h ▸ hp)
  have hpair := h ▸ usedSymbols_pairwise limit len
  obtain ⟨hget, -, hle⟩ := hmem (List.mem_append_cons_self)
  have hsorted : (0 :: (pre ++ (s, l) :: post).map Prod.snd).Pairwise (· ≤ ·) :=
    .cons (fun _ _ => Nat.zero_le _) (List.pairwise_map.mpr (hpair.imp comesBefore.len_le))
  have hs : ∀ p ∈ pre, p.1 ≠ s := by
    rintro ⟨s', l'⟩ hp rfl
    have hget' := (hmem (List.mem_append_left _ hp)).1
    obtain rfl : l = l' := Option.some.inj (hget.symm.trans hget')
    exact comesBefore.irrefl _ ((List.pairwise_append.mp hpair).2.2 _ hp _ List.mem_cons_self)
  obtain ⟨k, hk, hspan⟩ := assignFrom_lookup (c := 0) hle hsorted hs
  obtain ⟨hlt, -⟩ := List.getElem?_eq_some_iff.mp hget
  have hcode : (buildCodes limit len).code.getD s 0 = k := by simp [buildCodes, h, hk, hlt]
  rw [hcode, hspan, Nat.zero_mul, Nat.zero_add]

variable (h : ∀ l ∈ len, l ≤ limit)
include h

theorem mem_usedSymbols_of_used {a : Nat} (ha : (buildCodes limit len).used a) :
    (a, len.getD a 0) ∈ usedSymbols limit len := by
  have hlt : a < len.length := HuffTable.lt_length_of_used ha
  have hne : len.getD a 0 ≠ 0 := ha
  rw [List.getD_eq_getElem _ _ hlt] at hne ⊢
  exact mem_usedSymbols.mpr ⟨List.getElem?_eq_getElem hlt, Nat.pos_of_ne_zero hne, h _ (List.getElem_mem hlt)⟩

/-- A code word ends inside the part of the code space the Kraft sum gives. -/
theorem buildCodes_end_le {a : Nat} (ha : (buildCodes limit len).used a) :
    ((buildCodes limit len).code.getD a 0 + 1) * 2 ^ (limit - len.getD a 0) ≤ kraftSum limit len := by
  obtain ⟨pre, post, hsplit⟩ := List.append_of_mem (mem_usedSymbols_of_used h ha)
  rw [← codeSpan_usedSymbols h, hsplit, Nat.add_mul, buildCodes_code_mul hsplit]
  simp only [codeSpan_append, codeSpan_cons]
  omega

/-- A code word ends before the next ones start. -/
theorem buildCodes_end_le_start {a b : Nat} (ha : (buildCodes limit len).used a) (hb : (buildCodes limit len).used b)
    (hab : comesBefore (a, len.getD a 0) (b, len.getD b 0)) :
    ((buildCodes limit len).code.getD a 0 + 1) * 2 ^ (limit - len.getD a 0) ≤
      (buildCodes limit len).code.getD b 0 * 2 ^ (limit - len.getD b 0) := by
  obtain ⟨pre, post, hsplit⟩ := List.append_of_mem (mem_usedSymbols_of_used h hb)
  obtain ⟨-, hpost, -⟩ := List.pairwise_append.mp (hsplit ▸ usedSymbols_pairwise limit len)
  have hmem := hsplit ▸ mem_usedSymbols_of_used h ha
  have hpre : (a, len.getD a 0) ∈ pre := by
    rcases List.mem_append.mp hmem with hp | hp
    · exact hp
    · rcases List.mem_cons.mp hp with heq | hp
      · exact absurd hab (heq ▸ comesBefore.irrefl _)
      · exact absurd hab (List.rel_of_pairwise_cons hpost hp).asymm
  obtain ⟨pre', mid, rfl⟩ := List.append_of_mem hpre
  have hsplit' : usedSymbols limit len = pre' ++ (a, len.getD a 0) :: (mid ++ (b, len.getD b 0) :: post) := by
    rw [hsplit, List.append_assoc, List.cons_append]
  rw [buildCodes_code_mul hsplit, Nat.add_mul, buildCodes_code_mul hsplit']
  simp only [codeSpan_append, codeSpan_cons]
  omega

/-- R164 (b): of two symbols the later one's word, cut to the length of the earlier one's, is the larger number. -/
theorem buildCodes_code_lt_div {a b : Nat} (ha : (buildCodes limit len).used a) (hb : (buildCodes limit len).used b)
    (hab : comesBefore (a, len.getD a 0) (b, len.getD b 0)) :
    (buildCodes limit len).code.getD a 0 < (buildCodes limit len).code.getD b 0 / 2 ^ (len.getD b 0 - len.getD a 0) := by
  have hlen : len.getD a 0 ≤ len.getD b 0 := hab.len_le
  have hlim : len.getD b 0 ≤ limit := (mem_usedSymbols.mp (mem_usedSymbols_of_used h hb)).2.2
  have hspan := buildCodes_end_le_start h ha hb hab
  rw [show limit - len.getD a 0 = len.getD b 0 - len.getD a 0 + (limit - len.getD b 0) by omega, Nat.pow_add,
    ← Nat.mul_assoc] at hspan
  exact (Nat.le_div_iff_mul_le (Nat.two_pow_pos _)).mpr (Nat.le_of_mul_le_mul_right hspan (Nat.two_pow_pos _))

/-- R164 (c): codes rise in the order of R162. -/
theorem buildCodes_code_lt {a b : Nat} (ha : (buildCodes limit len).used a) (hb : (buildCodes limit len).used b)
    (hab : comesBefore (a, len.getD a 0) (b, len.getD b 0)) :
    (buildCodes limit len).code.getD a 0 < (buildCodes limit len).code.getD b 0 :=
  (buildCodes_code_lt_div h ha hb hab).trans_le (Nat.div_le_self _ _)

/-- R164 (c), left-aligned. -/
theorem buildCodes_leftAligned_lt {a b : Nat} (ha : (buildCodes limit len).used a) (hb : (buildCodes limit len).used b)
    (hab : comesBefore (a, len.getD a 0) (b, len.getD b 0)) :
    (buildCodes limit len).code.getD a 0 * 2 ^ (limit - len.getD a 0) <
      (buildCodes limit len).code.getD b 0 * 2 ^ (limit - len.getD b 0) :=
  (Nat.mul_lt_mul_of_pos_right (Nat.lt_succ_self _) (Nat.two_pow_pos _)).trans_le
    (buildCodes_end_le_start h ha hb hab)

variable (hk : kraftSum limit len ≤ 2 ^ limit)
include hk

theorem buildCodes_sound : (buildCodes limit len).sound := by
  refine ⟨buildCodes_code_length limit len, fun a ha => ?_⟩
  have hlim : len.getD a 0 ≤ limit := (mem_usedSymbols.mp (mem_usedSymbols_of_used h ha)).2.2
  have hend := (buildCodes_end_le h ha).trans hk
  rw [← pow_mul_pow_sub 2 hlim] at hend
  exact Nat.le_of_mul_le_mul_right hend (Nat.two_pow_pos _)

theorem buildCodes_noWordBeginsAnother : (buildCodes limit len).noWordBeginsAnother := by
  intro a b ha hb hne hpre
  have hlen : len.getD a 0 ≤ len.getD b 0 := by
    simpa only [HuffTable.length_word, buildCodes_len] using hpre.length_le
  obtain ⟨-, hfit⟩ := buildCodes_sound h hk
  have hcode : (buildCodes limit len).code.getD a 0 =
      (buildCodes limit len).code.getD b 0 / 2 ^ (len.getD b 0 - len.getD a 0) := by
    refine eq_div_of_writeCode_prefix (hfit a ha) ?_ ?_
    · simpa only [buildCodes_len, Nat.add_sub_of_le hlen] using hfit b hb
    · simpa only [HuffTable.word_eq, buildCodes_len, Nat.add_sub_of_le hlen] using hpre
  by_cases hab : comesBefore (a, len.getD a 0) (b, len.getD b 0)
  · exact (buildCodes_code_lt_div h ha hb hab).ne hcode
  · have heq : len.getD b 0 = len.getD a 0 ∧ b < a := by
      simp only [comesBefore] at hab
      omega
    have hba := buildCodes_code_lt h hb ha (.inr heq)
    rw [hcode, heq.1, Nat.sub_self, Nat.pow_zero, Nat.div_one] at hba
    exact hba.false

end

end Sys2Proof.Machine
end

section

/-! SUPPORT. The length limiter with at most one used symbol (R171). -/

namespace Sys2Proof.Machine

theorem limitedLengths_of_usedCount_le {limit : Nat} {f : List Nat} (h : usedCount f ≤ 1) :
    limitedLengths limit f = specialLengths f := if_pos h

theorem usedCount_eq_zero_iff {f : List Nat} : usedCount f = 0 ↔ ∀ x ∈ f, x = 0 := by
  simp [usedCount, List.filter_eq_nil_iff]

theorem usedCount_append (f g : List Nat) : usedCount (f ++ g) = usedCount f + usedCount g := by
  simp [usedCount]

theorem usedCount_cons_of_ne_zero {x : Nat} {f : List Nat} (h : x ≠ 0) : usedCount (x :: f) = usedCount f + 1 := by
  simp [usedCount, h]

/-- With no nonzero frequency the symbols 0 and 1 are given length 1 (R171). -/
theorem specialLengths_of_none {f : List Nat} (hlen : 2 ≤ f.length) (h : ∀ x ∈ f, x = 0) :
    specialLengths f = [1, 1] ++ List.replicate (f.length - 2) 0 := by
  have hnone : f.zipIdx.find? (fun p => p.1 ≠ 0) = none := by
    refine List.find?_eq_none.mpr fun p hp => ?_
    simpa using h p.1 (List.fst_mem_of_mem_zipIdx hp)
  rw [specialLengths, hnone]
  refine List.ext_getElem (by simp; omega) fun i _ _ => ?_
  match i with
  | 0 | 1 => simp
  | j + 2 => simp

section
variable {f : List Nat} {s : Nat} (h : ∀ t, t < f.length → (f.getD t 0 ≠ 0 ↔ t = s))
include h

theorem getElem_ne_zero_iff_of_one {t : Nat} (ht : t < f.length) : f[t] ≠ 0 ↔ t = s := by
  rw [← h t ht, List.getD_eq_getElem _ _ ht]

variable (hs : s < f.length)
include hs

theorem usedCount_of_one : usedCount f = 1 := by
  have hsplit : f = f.take s ++ f[s] :: f.drop (s + 1) := by rw [List.getElem_cons_drop, List.take_append_drop]
  have hbefore : usedCount (f.take s) = 0 := usedCount_eq_zero_iff.mpr fun x hx => by
    obtain ⟨i, hi, rfl⟩ := List.mem_take_iff_getElem.mp hx
    exact not_not.mp (mt (getElem_ne_zero_iff_of_one h _).mp (by omega))
  have hafter : usedCount (f.drop (s + 1)) = 0 := usedCount_eq_zero_iff.mpr fun x hx => by
    obtain ⟨i, hi, rfl⟩ := List.mem_drop_iff_getElem.mp hx
    exact not_not.mp (mt (getElem_ne_zero_iff_of_one h _).mp (by omega))
  have hused : f[s] ≠ 0 := (getElem_ne_zero_iff_of_one h hs).mpr rfl
  rw [hsplit, usedCount_append, usedCount_cons_of_ne_zero hused, hbefore, hafter]

/-- The only used symbol and its second one are given length 1 (R171). -/
theorem specialLengths_of_one :
    specialLengths f = f.zipIdx.map fun p => if p.2 = s ∨ p.2 = (if s = 0 then 1 else 0) then 1 else 0 := by
  rw [specialLengths]
  cases hfind : f.zipIdx.find? (fun p => p.1 ≠ 0) with
  | none =>
    have hmem : (f[s], s) ∈ f.zipIdx := List.mk_mem_zipIdx_iff_getElem?.mpr (List.getElem?_eq_getElem hs)
    have hused : f[s] ≠ 0 := (getElem_ne_zero_iff_of_one h hs).mpr rfl
    exact absurd (decide_eq_true hused) (List.find?_eq_none.mp hfind _ hmem)
  | some q =>
    have hmem := List.mem_zipIdx_iff_getElem?.mp (List.mem_of_find?_eq_some hfind)
    obtain ⟨hq, hget⟩ := List.getElem?_eq_some_iff.mp hmem
    have hne : q.1 ≠ 0 := by simpa using List.find?_some hfind
    obtain rfl : q.2 = s := (getElem_ne_zero_iff_of_one h hq).mp (hget ▸ hne)
    rfl

end

end Sys2Proof.Machine
end

section
open Sys2Proof Sys2Proof.Machine

/-- Settles O16: in the order of R162 the code words fill the code space one behind the other. -/
theorem canonicalCodes : Obligations.CanonicalCodes := fun _ _ h hk =>
  ⟨rfl, buildCodes_sound h hk, buildCodes_noWordBeginsAnother h hk, fun _ _ ha hb =>
    ⟨fun hlt => ⟨buildCodes_leftAligned_lt h ha hb (.inl hlt), buildCodes_code_lt h ha hb (.inl hlt)⟩,
      fun heq hlt => buildCodes_code_lt h ha hb (.inr ⟨heq, hlt⟩)⟩⟩

/-- Settles O18: the length limiter takes the special case, whose search finds no used symbol or the only one. -/
theorem atMostOneUsedSymbol : Obligations.AtMostOneUsedSymbol := by
  refine fun limit f hlen => ⟨fun h => ?_, fun s hs h => ?_⟩
  · rw [limitedLengths_of_usedCount_le ((usedCount_eq_zero_iff.mpr h).trans_le (Nat.zero_le 1)),
      specialLengths_of_none hlen h]
  · rw [limitedLengths_of_usedCount_le (usedCount_of_one h hs).le, specialLengths_of_one h hs]
    exact ⟨by simp, fun t ht => by simp [ht]⟩

end

section

/-! SUPPORT. The tables of a match's symbols (R108, R109, R203): rising rows, each reaching to the next one's base. -/

namespace Sys2Proof.Machine

/-- In a rising table the entries up to `v` come first. -/
theorem getElem_le_iff_lt_length_filter {T : List Nat} (hT : T.Pairwise (· < ·)) {v i : Nat} (hi : i < T.length) :
    T[i] ≤ v ↔ i < (T.filter (fun b => b ≤ v)).length := by
  induction T generalizing i with
  | nil => exact absurd hi (Nat.not_lt_zero i)
  | cons x xs ih =>
    obtain ⟨hx, hxs⟩ := List.pairwise_cons.mp hT
    by_cases hv : x ≤ v
    · cases i with
      | zero => simp [hv]
      | succ j => simpa [hv] using ih hxs (Nat.lt_of_succ_lt_succ hi)
    · have hrest : ∀ b ∈ x :: xs, ¬ b ≤ v := by
        rintro b (_ | ⟨_, hb⟩)
        · exact hv
        · exact fun hbv => hv ((hx b hb).le.trans hbv)
      have hnone : (x :: xs).filter (fun b => b ≤ v) = [] := List.filter_eq_nil_iff.mpr (by simpa using hrest)
      rw [hnone]
      exact iff_of_false (hrest _ (List.getElem_mem hi)) (Nat.not_lt_zero i)

/-- Where each row with its extra bits reaches the next row's base, and the last row reaches `bound`, the last row whose
base is at most `v` expresses `v`. -/
theorem lastRow_expresses {T : List Nat} {extra : Nat → Nat} {v bound : Nat} (hT : T.Pairwise (· < ·))
    (hreach : ∀ i < T.length, T.getD (i + 1) bound ≤ T.getD i 0 + 2 ^ extra i)
    (hfirst : ∃ h : 0 < T.length, T[0] ≤ v) (hbound : v < bound) :
    ∃ c < T.length, (T.filter (fun b => b ≤ v)).length = c + 1 ∧ T.getD c 0 ≤ v ∧ v < T.getD c 0 + 2 ^ extra c := by
  obtain ⟨hlen, hfirst⟩ := hfirst
  have hpos := (getElem_le_iff_lt_length_filter hT hlen).mp hfirst
  obtain ⟨c, hc⟩ := Nat.exists_eq_succ_of_ne_zero hpos.ne'
  have hcT : c < T.length := by have := List.length_filter_le (fun b => decide (b ≤ v)) T; omega
  refine ⟨c, hcT, hc, ?_, lt_of_lt_of_le ?_ (hreach c hcT)⟩
  · rw [List.getD_eq_getElem _ _ hcT]
    exact (getElem_le_iff_lt_length_filter hT hcT).mpr (by omega)
  · rcases Nat.lt_or_ge (c + 1) T.length with hnext | hlast
    · rw [List.getD_eq_getElem _ _ hnext]
      exact Nat.lt_of_not_le fun h => by have := (getElem_le_iff_lt_length_filter hT hnext).mp h; omega
    · rwa [List.getD_eq_default _ _ hlast]

/-- The symbol of a length is in range and expresses it (R203). -/
theorem lsym_expresses {l : Nat} (h3 : 3 ≤ l) (h258 : l ≤ 258) :
    257 ≤ lsym l ∧ lsym l ≤ 285 ∧ lbase (lsym l) ≤ l ∧ l < lbase (lsym l) + 2 ^ lextra (lsym l) := by
  by_cases hl : l = 258
  · subst hl
    decide
  · obtain ⟨c, hc, hcount, hle, hlt⟩ := lastRow_expresses (T := lbaseTable.take 28) (v := l)
      (extra := fun i => lextraTable.getD i 0) (bound := 259) (by decide) (by decide) ⟨by decide, h3⟩ (by omega)
    replace hc : c < 28 := hc
    have hsym : lsym l = 257 + c := by rw [lsym, if_neg hl, hcount]; omega
    have hbase : lbase (257 + c) = (lbaseTable.take 28).getD c 0 := by
      simp [lbase, List.getD, List.getElem?_take_of_lt hc]
    have hextra : lextra (257 + c) = lextraTable.getD c 0 := by rw [lextra, Nat.add_sub_cancel_left]
    rw [hsym, hbase, hextra]
    exact ⟨by omega, by omega, hle, hlt⟩

/-- The symbol of a distance is in range and expresses it (R203). -/
theorem dsym_expresses {d : Nat} (h1 : 1 ≤ d) (hd : d ≤ 32768) :
    dsym d ≤ 29 ∧ dbase (dsym d) ≤ d ∧ d < dbase (dsym d) + 2 ^ dextra (dsym d) := by
  obtain ⟨c, hc, hcount, hle, hlt⟩ := lastRow_expresses (T := dbaseTable) (v := d) (extra := dextra) (bound := 32769)
    (by decide) (by decide) ⟨by decide, h1⟩ (by omega)
  have hsym : dsym d = c := by rw [dsym, hcount, Nat.add_sub_cancel]
  rw [hsym]
  exact ⟨Nat.le_of_lt_succ hc, hle, hlt⟩

/-- A length symbol with any extra bits stays in 3..258 (R108). -/
theorem lbase_add_extra_mem {c x : Nat} (h257 : 257 ≤ c) (h285 : c ≤ 285) (hx : x < 2 ^ lextra c) :
    3 ≤ lbase c + x ∧ lbase c + x ≤ 258 := by
  have hrows : ∀ i < 29, 3 ≤ lbase (257 + i) ∧ lbase (257 + i) + 2 ^ lextra (257 + i) ≤ 259 := by decide
  obtain ⟨i, rfl⟩ := Nat.exists_eq_add_of_le h257
  have := hrows i (by omega)
  omega

/-- A distance symbol with any extra bits stays in 1..32768 (R109). -/
theorem dbase_add_extra_mem {c x : Nat} (h29 : c ≤ 29) (hx : x < 2 ^ dextra c) :
    1 ≤ dbase c + x ∧ dbase c + x ≤ 32768 := by
  have hrows : ∀ i < 30, dbase i + 2 ^ dextra i ≤ 32769 := by decide
  have hc : c < 30 := Nat.lt_succ_of_le h29
  have := dbase_pos hc
  have := hrows c hc
  omega

end Sys2Proof.Machine
end

section

/-! SUPPORT. The meaning of a match (R194): what it appends, and when the bytes of the data are what it appends. -/

namespace Sys2Proof.Machine

section
variable {len dist p : Nat} {hist data : List Byte}

@[simp] theorem expandMatch_zero : expandMatch 0 dist hist = some hist := rfl

/-- A match appends the byte `dist` back, then goes on with what is left of it. -/
theorem expandMatch_succ (h1 : 1 ≤ dist) (hd : dist ≤ hist.length) :
    expandMatch (len + 1) dist hist.reverse =
      expandMatch len dist (hist ++ [hist[hist.length - dist]]).reverse := by
  have hback : hist.reverse[dist - 1]? = some hist[hist.length - dist] := by
    rw [List.getElem?_reverse (by omega), show hist.length - 1 - (dist - 1) = hist.length - dist by omega,
      List.getElem?_eq_getElem]
  rw [expandMatch, if_neg (by omega), hback, List.reverse_concat]

theorem expandMatch_eq_none (hlen : 1 ≤ len) (h : dist = 0 ∨ hist.length < dist) :
    expandMatch len dist hist.reverse = none := by
  obtain ⟨k, rfl⟩ := Nat.exists_eq_add_of_le' hlen
  rw [expandMatch]
  rcases h with rfl | h
  · rfl
  · rw [if_neg (by omega), List.getElem?_eq_none (by simp; omega)]

/-- What a match appends: each byte is the one `dist` back, which may be one the match itself has appended. -/
theorem expandMatch_repeats (h1 : 1 ≤ dist) (hd : dist ≤ hist.length) :
    ∃ out, expandMatch len dist hist.reverse = some (hist ++ out).reverse ∧ out.length = len ∧
      ∀ i < len, (hist ++ out)[hist.length + i]? = (hist ++ out)[hist.length + i - dist]? := by
  induction len generalizing hist with
  | zero => exact ⟨[], by simp⟩
  | succ k ih =>
    obtain ⟨out, hout, hlen, hback⟩ := ih (hist := hist ++ [hist[hist.length - dist]]) (by simp; omega)
    refine ⟨hist[hist.length - dist] :: out, ?_, by simp [hlen], fun i hi => ?_⟩
    · rw [expandMatch_succ h1 hd, hout, List.append_cons hist _ out]
    · cases i with
      | zero =>
        have hlt : hist.length - dist < hist.length := by omega
        rw [Nat.add_zero, List.getElem?_append_right (Nat.le_refl _), List.getElem?_append_left hlt,
          List.getElem?_eq_getElem hlt, Nat.sub_self, List.getElem?_cons_zero]
      | succ j => simpa [Nat.add_assoc, Nat.add_comm 1] using hback j (by omega)

/-- Data that repeats itself `dist` back from `p` on is what a match at `p` appends. -/
theorem expandMatch_take (h1 : 1 ≤ dist) (hd : dist ≤ p) (hlen : p + len ≤ data.length)
    (hback : ∀ i < len, data[p + i]? = data[p + i - dist]?) :
    expandMatch len dist (data.take p).reverse = some (data.take (p + len)).reverse := by
  induction len generalizing p with
  | zero => rfl
  | succ k ih =>
    have hp : p < data.length := by omega
    have hbyte : (data.take p)[(data.take p).length - dist]'(by simp; omega) = data[p] := by
      have h0 := hback 0 (Nat.succ_pos k)
      rw [Nat.add_zero, List.getElem?_eq_getElem hp, List.getElem?_eq_getElem (by omega), Option.some_inj] at h0
      simp [h0, List.length_take, Nat.min_eq_left hp.le]
    rw [expandMatch_succ h1 (by simp; omega), hbyte, List.take_append_getElem hp,
      ih (p := p + 1) (by omega) (by omega) fun i hi => by
        simpa [Nat.add_assoc, Nat.add_comm 1] using hback (i + 1) (by omega),
      Nat.add_right_comm, Nat.add_assoc]

end

theorem expandRev_append (hist : List Byte) (xs ys : List LzItem) :
    expandRev hist (xs ++ ys) = (expandRev hist xs).bind fun h => expandRev h ys := by
  induction xs generalizing hist with
  | nil => rfl
  | cons x xs ih =>
    cases x with
    | lit b => exact ih (b :: hist)
    | copy len dist =>
      simp only [List.cons_append, expandRev]
      cases expandMatch len dist hist with
      | none => rfl
      | some h => exact ih h

theorem expandRev_copy (hist : List Byte) (len dist : Nat) :
    expandRev hist [.copy len dist] = expandMatch len dist hist := by
  rw [expandRev]
  cases expandMatch len dist hist <;> rfl

end Sys2Proof.Machine
end

section
open Sys2Proof Sys2Proof.Machine

/-- Settles O19: a value goes to the last row whose base it reaches, and each row reaches to the next one's base. -/
theorem matchSymbolsCoverTheRanges : Obligations.MatchSymbolsCoverTheRanges := by
  refine ⟨fun l h3 h258 => ?_, fun _ => dsym_expresses, fun _ _ => lbase_add_extra_mem, fun _ _ => dbase_add_extra_mem⟩
  obtain ⟨hlo, hhi, hle, hlt⟩ := lsym_expresses h3 h258
  exact ⟨hlo, hhi, hle, hlt, fun h => if_pos h⟩

/-- Settles O20, by induction on the match's length. -/
theorem matchCopiesFromBehind : Obligations.MatchCopiesFromBehind := by
  refine fun hist len dist => ⟨fun h1 hd => ?_, fun hlen h => ?_⟩
  · obtain ⟨out, hout, hlen, hback⟩ := expandMatch_repeats (len := len) h1 hd
    exact ⟨out, by simp [expand, expandRev_copy, hout], hlen, hback⟩
  · rw [expand, expandRev_copy, expandMatch_eq_none hlen h, Option.map_none]

end

section

/-! SUPPORT. The reference match finder meets its contract (R193, R201): every match it considers is verified against
the data, and between two turns the items written so far stand for the data up to the position. -/

namespace Sys2Proof.Machine

/-! ### The search -/

theorem matchLen_le (cap : Nat) (xs ys : List Byte) : matchLen cap xs ys ≤ cap := by
  induction cap, xs, ys using matchLen.induct with
  | case1 k x xs ys ih => simpa [matchLen] using ih
  | case2 k x xs y ys hne => simp [matchLen, hne]
  | case3 cap xs ys hend => simp [matchLen]

/-- The two sequences agree on the length found. -/
theorem getElem?_eq_of_lt_matchLen {cap i : Nat} {xs ys : List Byte} (h : i < matchLen cap xs ys) : xs[i]? = ys[i]? := by
  induction cap, xs, ys using matchLen.induct generalizing i with
  | case1 k x xs ys ih =>
    cases i with
    | zero => rfl
    | succ j => exact ih (by simpa [matchLen] using h)
  | case2 k x xs y ys hne => simp [matchLen, hne] at h
  | case3 cap xs ys hend => simp [matchLen] at h

/-- The match `m`, a length and a distance, is one R193 (b) allows at position `p` of a block that ends at `stop`, and
the data there repeats what lies the distance behind. -/
structure MatchFits (window : Nat) (data : List Byte) (stop p : Nat) (m : Nat × Nat) : Prop where
  len_le : m.1 ≤ Config.maxMatch
  in_block : p + m.1 ≤ stop
  dist_pos : 1 ≤ m.2
  dist_le_window : m.2 ≤ window
  dist_le_pos : m.2 ≤ p
  repeats : ∀ i < m.1, data[p + i]? = data[p + i - m.2]?

section
variable {cfg : FinderConfig} {data : List Byte} {start stop p : Nat}

/-- The candidate `q` of the walk, with the length found, is a match that fits. -/
theorem matchFits_candidate {q : Nat} (hq : q < p) (hwin : p - q ≤ cfg.window) (hp : p ≤ stop) :
    MatchFits cfg.window data stop p
      (matchLen (min Config.maxMatch (stop - p)) (data.drop q) (data.drop p), p - q) := by
  have hcap := matchLen_le (min Config.maxMatch (stop - p)) (data.drop q) (data.drop p)
  refine ⟨by omega, by dsimp only; omega, Nat.sub_pos_of_lt hq, hwin, Nat.sub_le p q, fun i hi => ?_⟩
  have hback : p + i - (p - q) = q + i := by omega
  simpa only [List.getElem?_drop, hback] using (getElem?_eq_of_lt_matchLen hi).symm

/-- The walk along chains that go back keeps a best match that fits. -/
theorem walkChain_fits {prev : List (Nat × Nat)} {fuel : Nat} {q : Option Nat} {best : Nat × Nat} (hp : p ≤ stop)
    (hprev : ∀ e ∈ prev, e.2 < e.1) (hq : ∀ a, q = some a → a < p)
    (hbest : 0 < best.1 → MatchFits cfg.window data stop p best) :
    0 < (walkChain cfg data p (min Config.maxMatch (stop - p)) prev fuel q best).1 →
      MatchFits cfg.window data stop p (walkChain cfg data p (min Config.maxMatch (stop - p)) prev fuel q best) := by
  induction fuel generalizing q best with
  | zero => exact hbest
  | succ k ih =>
    cases q with
    | none => exact hbest
    | some q =>
      have hqp : q < p := hq q rfl
      have hnext : ∀ a, tableGet prev q = some a → a < p := fun a ha => (hprev _ (tableGet_mem ha)).trans hqp
      rw [walkChain]
      split
      · exact hbest
      · next hwin =>
        have hcand := matchFits_candidate (data := data) hqp (Nat.le_of_not_lt hwin) hp
        dsimp only
        split_ifs
        · exact fun _ => hcand
        · exact hbest
        · exact ih hnext fun _ => hcand
        · exact ih hnext hbest

/-- A match that the search finds fits. -/
theorem search_fits {t : Chains} (ht : t.below p) :
    0 < (search cfg data t p stop).1 → MatchFits cfg.window data stop p (search cfg data t p stop) := by
  obtain ⟨hhead, hprev⟩ := ht
  rw [search]
  split
  · exact fun hpos => absurd hpos (Nat.lt_irrefl 0)
  · next hroom =>
    cases hashAt cfg.hash data p with
    | none => exact fun hpos => absurd hpos (Nat.lt_irrefl 0)
    | some h =>
      exact walkChain_fits (by omega) (fun e he => (hprev e he).1) (fun a ha => hhead _ (tableGet_mem ha))
        fun hpos => absurd hpos (Nat.lt_irrefl 0)

/-! ### The items written -/

/-- The items written so far, newest first, take the history before the block to the data before `p` (R193 (a)) and are
all allowed (R193 (b), (c)). -/
structure Written (cfg : FinderConfig) (data : List Byte) (start p : Nat) (revOut : List LzItem) : Prop where
  expands : expandRev (data.take start).reverse revOut.reverse = some (data.take p).reverse
  allowed : ∀ i ∈ revOut, itemOk cfg.window cfg.useLz77 i = true

theorem written_nil : Written cfg data p p [] := ⟨rfl, nofun⟩

theorem Written.lit {revOut : List LzItem} (h : Written cfg data start p revOut) (hp : p < data.length) :
    Written cfg data start (p + 1) (.lit (data.getD p 0) :: revOut) where
  expands := by
    rw [List.reverse_cons, expandRev_append, h.expands, List.getD_eq_getElem _ _ hp, Option.bind_some,
      ← List.take_append_getElem hp, List.reverse_concat]
    rfl
  allowed := List.forall_mem_cons.mpr ⟨rfl, h.allowed⟩

theorem Written.copy {revOut : List LzItem} {m : Nat × Nat} (h : Written cfg data start p revOut)
    (hm : MatchFits cfg.window data stop p m) (hlz : cfg.useLz77 = true) (hmin : Config.minMatch ≤ m.1)
    (hstop : stop ≤ data.length) : Written cfg data start (p + m.1) (.copy m.1 m.2 :: revOut) where
  expands := by
    rw [List.reverse_cons, expandRev_append, h.expands, Option.bind_some, expandRev_copy]
    exact expandMatch_take hm.dist_pos hm.dist_le_pos (hm.in_block.trans hstop) hm.repeats
  allowed := List.forall_mem_cons.mpr
    ⟨by simp [itemOk, hlz, hmin, hm.len_le, hm.dist_pos, hm.dist_le_window], h.allowed⟩

theorem Written.symbolsOk {revOut : List LzItem} (h : Written cfg data start stop revOut) (hstart : start ≤ stop)
    (hstop : stop ≤ data.length) :
    symbolsOk cfg.window cfg.useLz77 data start (stop - start) revOut.reverse = true := by
  have hexp : expand (data.take start) revOut.reverse = some ((data.drop start).take (stop - start)) := by
    rw [expand, h.expands, Option.map_some, List.reverse_reverse, List.length_take_of_le (hstart.trans hstop),
      List.drop_take]
  simpa [Machine.symbolsOk, hexp] using h.allowed

/-! ### The loop -/

/-- Between two turns: the data before the position is written, and the chains go back from there. -/
structure FinderState.BetweenTurns (cfg : FinderConfig) (data : List Byte) (start stop : Nat) (f : FinderState) :
    Prop where
  written : Written cfg data start f.p f.revOut
  chains : f.chains.below f.p
  in_block : f.p ≤ stop

/-- With a match in hand: it starts at the position, which is already inserted. -/
structure FinderState.MatchInHand (cfg : FinderConfig) (data : List Byte) (start stop : Nat) (f : FinderState) :
    Prop where
  written : Written cfg data start f.p f.revOut
  chains : f.chains.below (f.p + 1)
  fits : MatchFits cfg.window data stop f.p f.best
  len_ge : Config.minMatch ≤ f.best.1

variable {f : FinderState}

/-- The lazy steps put another match in hand, at the position or later. -/
theorem lazySteps_matchInHand {fuel : Nat} (h : f.MatchInHand cfg data start stop) (hstop : stop ≤ data.length) :
    (lazySteps cfg data stop fuel f).MatchInHand cfg data start stop ∧ f.p ≤ (lazySteps cfg data stop fuel f).p := by
  induction fuel generalizing f with
  | zero => exact ⟨h, Nat.le_refl _⟩
  | succ k ih =>
    rw [lazySteps]
    split
    · exact ⟨h, Nat.le_refl _⟩
    · dsimp only
      split
      · next hend hlonger =>
        refine And.imp_right (Nat.le_succ f.p).trans (ih ⟨h.written.lit (by omega), insertPos_below h.chains, ?_, ?_⟩)
        · exact search_fits h.chains (Nat.zero_lt_of_lt hlonger)
        · exact h.len_ge.trans hlonger.le
      · exact ⟨h, Nat.le_refl _⟩

/-- Writing the match in hand and inserting its positions ends the turn. -/
theorem FinderState.MatchInHand.emit (h : f.MatchInHand cfg data start stop) (hlz : cfg.useLz77 = true)
    (hstop : stop ≤ data.length) :
    ({ f with
        p := f.p + f.best.1
        chains := insertRange cfg.hash data (f.p + 1) (f.best.1 - 1) f.chains
        revOut := .copy f.best.1 f.best.2 :: f.revOut } : FinderState).BetweenTurns cfg data start stop where
  written := h.written.copy h.fits hlz h.len_ge hstop
  chains := by
    have hlen : 3 ≤ f.best.1 := h.len_ge
    have hbelow := insertRange_below (c := cfg.hash) (data := data) (n := f.best.1 - 1) h.chains
    rwa [show f.p + 1 + (f.best.1 - 1) = f.p + f.best.1 by omega] at hbelow
  in_block := h.fits.in_block

theorem FinderState.MatchInHand.lt_add_len (h : f.MatchInHand cfg data start stop) : f.p < f.p + f.best.1 :=
  Nat.lt_add_of_pos_right (Nat.zero_lt_of_lt h.len_ge)

/-- A turn of the loop moves on inside the block. -/
theorem findStep_betweenTurns (h : f.BetweenTurns cfg data start stop) (hp : f.p < stop) (hstop : stop ≤ data.length) :
    (findStep cfg data stop f).BetweenTurns cfg data start stop ∧ f.p < (findStep cfg data stop f).p := by
  have hlit := h.written.lit (hp.trans_le hstop)
  rw [findStep]
  split
  · exact ⟨⟨hlit, Chains.below_mono h.chains (Nat.le_succ _), hp⟩, Nat.lt_succ_self _⟩
  · next hlz =>
    have hchains := insertPos_below (c := cfg.hash) (data := data) h.chains
    dsimp only
    split
    · exact ⟨⟨hlit, hchains, hp⟩, Nat.lt_succ_self _⟩
    · next hlong =>
      have hlen : Config.minMatch ≤ (search cfg data f.chains f.p stop).1 := by omega
      have hfound : ({ f with
          best := search cfg data f.chains f.p stop
          chains := insertPos cfg.hash data f.p f.chains } : FinderState).MatchInHand cfg data start stop :=
        ⟨h.written, hchains, search_fits h.chains (Nat.zero_lt_of_lt hlen), hlen⟩
      have huse : cfg.useLz77 = true := Bool.eq_true_of_not_eq_false hlz
      split
      · obtain ⟨hhand, hle⟩ := lazySteps_matchInHand (fuel := stop - f.p) hfound hstop
        exact ⟨hhand.emit huse hstop, hle.trans_lt hhand.lt_add_len⟩
      · exact ⟨hfound.emit huse hstop, hfound.lt_add_len⟩

/-- With a turn for every position left the loop reaches the block's end. -/
theorem findLoop_betweenTurns {fuel : Nat} (h : f.BetweenTurns cfg data start stop) (hstop : stop ≤ data.length)
    (hfuel : stop ≤ f.p + fuel) :
    (findLoop cfg data stop fuel f).BetweenTurns cfg data start stop ∧ (findLoop cfg data stop fuel f).p = stop := by
  induction fuel generalizing f with
  | zero => exact ⟨h, Nat.le_antisymm h.in_block hfuel⟩
  | succ k ih =>
    rw [findLoop]
    split
    · next hend => exact ⟨h, Nat.le_antisymm h.in_block hend⟩
    · next hmore =>
      obtain ⟨hnext, hlt⟩ := findStep_betweenTurns h (Nat.lt_of_not_le hmore) hstop
      exact ih hnext (by omega)

end

end Sys2Proof.Machine
end

section
open Sys2Proof Sys2Proof.Machine

/-- Settles O21: every turn of the loop keeps what is written in step with the data, and the last one ends at `stop`. -/
theorem matchFinderMeetsItsContract : Obligations.MatchFinderMeetsItsContract := by
  refine ⟨fun cfg data start stop t hstart hstop ht => ?_, nofun, nofun⟩
  obtain ⟨hend, hp⟩ := findLoop_betweenTurns (cfg := cfg) (f := { p := start, best := (0, 0), chains := t, revOut := [] })
    (fuel := stop - start) ⟨written_nil, ht, hstart⟩ hstop (by dsimp only; omega)
  have hwritten := hend.written
  have hchains := hend.chains
  rw [hp] at hwritten hchains
  exact ⟨hwritten.symbolsOk hstart hstop, hchains⟩

end

section

/-! SUPPORT. What the stream elements of the INFLATE unit share: how they end in an error, the next field of the input
after other registers have changed, the inspection's symbol list, and the end of a block. -/

namespace Sys2Proof.Machine

/-! ### Elements that raise -/

/-- A raise of `k` in a state that differs from `s` only in what a stream element may touch. -/
theorem finish_raises {x : Res Unit} {k : ErrKind} {s u : State} (hx : x = .raise k u)
    (hu : u = { s with outLen := u.outLen, outBuf := u.outBuf, info := u.info, work := u.work }) :
    ∃ t, x.finish = .next t ∧ s.raised k t :=
  ⟨raiseError k u, by rw [hx, Res.finish_raise], raised_of_engineFrame hu⟩

/-! ### The next field of the input -/

/-- A field depends on IN and on where the active input starts, and on nothing else. -/
theorem streamField_congr {s u : State} (hin : u.inBuf = s.inBuf) (hbase : u.work.rd.base = s.work.rd.base)
    (k n : Nat) : streamField u k n = streamField s k n := by
  induction n generalizing k with
  | zero => rfl
  | succ m ih => simp only [streamField, streamBit, hin, hbase, ih]

@[simp] theorem State.nextField_setRegs (s : State) (r : Regs) (n v : Nat) :
    (s.setRegs r).nextField n v ↔ s.nextField n v := by
  simp only [State.nextField, streamField_congr (State.setRegs_inBuf s r) rfl, State.setRegs_work,
    State.setRegs_inputBits]

/-- A field that is there is read, and the sequence goes on behind it. -/
theorem readBits_bind {α : Type} {n v : Nat} {s : State} (h : s.nextField n v) (f : Nat → State → Res α) :
    (readBits n s).bind f = f v (s.setBitpos (s.work.rd.bitpos + n)) := by
  rw [readBits_of_nextField h, Res.bind_ok]

/-- A working register written before the read is written after it as well. -/
theorem readBits_setRegs_bind {α : Type} {n v : Nat} {s : State} (h : s.nextField n v) (r : Regs)
    (f : Nat → State → Res α) :
    (readBits n (s.setRegs r)).bind f = f v ((s.setBitpos (s.work.rd.bitpos + n)).setRegs r) :=
  readBits_bind ((State.nextField_setRegs s r n v).mpr h) f

theorem State.setRegs_setBitpos (s : State) (r : Regs) (n : Nat) :
    (s.setRegs r).setBitpos n = (s.setBitpos n).setRegs r := rfl

theorem State.setRegs_setRegs (s : State) (r r' : Regs) : (s.setRegs r).setRegs r' = s.setRegs r' := rfl

/-! ### Appending one byte -/

/-- The byte written at OUT_LEN, and OUT_LEN one larger, are OUT with that byte appended. -/
theorem appended_write_end {b : Byte} {s : State} (h : s.outLen.toNat < s.params.outCap.toNat) :
    s.appended (s.setOut (s.outBuf.write s.outLen.toNat b) (s.outLen + 1#31)) [b] := by
  obtain ⟨t, ht, -, happ⟩ := appendAll_of_room (bs := [b]) h
  rw [appendAll, appendOut_of_room h] at ht
  cases ht
  exact happ

/-! ### The inspection's symbol list -/

/-- Only in the inspection mode the item becomes the newest symbol (R250). -/
theorem recordItem_insp (i : LzItem) (s : State) : (recordItem i s).work.insp =
    if s.work.framing = .inspect then { s.work.insp with symsRev := i :: s.work.insp.symsRev } else s.work.insp := by
  unfold recordItem
  split_ifs <;> rfl

/-- Recording changes the inspection state and nothing else. -/
theorem recordItem_frame (i : LzItem) (s : State) : recordItem i s = s.setInsp (recordItem i s).work.insp := by
  obtain ⟨insp, h⟩ := recordItem_eq i s
  rw [h]
  rfl

/-! ### The end of a block -/

/-- Ending a block changes STATE, the error registers and INFO, and nothing else. -/
theorem endBlock_frame (s : State) : endBlock s = { s with
    run := (endBlock s).run, errKind := (endBlock s).errKind, errCode := (endBlock s).errCode
    info := (endBlock s).info } := by
  unfold endBlock
  dsimp only
  split_ifs <;> rfl

/-- A block's end appends the block's record to INFO in the inspection mode only. -/
theorem endBlock_info (s : State) :
    (endBlock s).info = if s.work.framing = .inspect then s.info ++ [blockRecord s] else s.info := by
  unfold endBlock
  dsimp only
  split_ifs <;> rfl

/-- The record says how many bits and bytes the block took, and of a dynamic block what its header gave (R250). -/
theorem endBlock_recorded (s : State) : s.recorded (endBlock s) s.work.rd.bitpos s.outLen.toNat := by
  refine ⟨fun h => by rw [endBlock_info, if_neg h], fun h => ⟨blockRecord s, by rw [endBlock_info, if_pos h],
    rfl, rfl, rfl, rfl, rfl, fun hdyn => ?_, fun hdyn => ?_⟩⟩
  · simp only [blockRecord, if_pos hdyn, and_self]
  · simp only [blockRecord, if_neg hdyn, and_self]

/-! ### Literals -/

theorem literal_of_room (b : Byte) {s : State} (h : s.outLen.toNat < s.params.outCap.toNat) :
    literal b s = .ok ()
      ((recordItem (.lit b) (s.setOut (s.outBuf.write s.outLen.toNat b) (s.outLen + 1#31))).setRun (.busy .llsym)) := by
  rw [literal, appendOut_of_room h, Res.bind_ok]

theorem literal_of_full (b : Byte) {s : State} (h : s.params.outCap.toNat ≤ s.outLen.toNat) :
    literal b s = .raise .outOfCapacity s := by
  rw [literal, appendOut_of_full h, Res.bind_raise]

/-! ### Lengths -/

/-- The rows of R108 are the length symbols in order, with LBASE and LEXTRA. -/
theorem lengthRows_eq : lengthRows = lenInstrs.zipIdx.map fun p => (p.1, lbase (257 + p.2), lextra (257 + p.2)) := by
  decide +kernel

/-- Each row of R108 is one length symbol. -/
theorem exists_symbol_of_mem_lengthRows {r : Instr × Nat × Nat} (h : r ∈ lengthRows) :
    ∃ sym, 257 ≤ sym ∧ sym ≤ 285 ∧ r.2.1 = lbase sym ∧ r.2.2 = lextra sym ∧
      ∀ s, exec r.1 s = (lengthSymbol sym s).finish := by
  rw [lengthRows_eq, List.mem_map] at h
  obtain ⟨⟨i, n⟩, hmem, rfl⟩ := h
  have hget : lenInstrs[n]? = some i := List.mem_zipIdx_iff_getElem?.mp hmem
  have hn : n < 29 := (List.getElem?_eq_some_iff.mp hget).1
  exact ⟨257 + n, by omega, by omega, by dsimp only, by dsimp only, exec_lenInstrs hget⟩

end Sys2Proof.Machine
end

section
open Sys2Proof Sys2Proof.Machine

/-- Settles O29: the append, then the record of the inspection mode. -/
theorem literalAppendsItsByte : Obligations.LiteralAppendsItsByte := by
  refine fun b s => ⟨fun hroom => ?_, fun hfull => finish_raises (literal_of_full b hfull) rfl⟩
  refine ⟨_, congrArg Res.finish (literal_of_room b hroom), ?_, ?_, fun hf => ?_, fun hf => ?_⟩
  · rw [recordItem_frame]
    exact appended_write_end hroom
  · rw [recordItem_frame]
    rfl
  · exact (recordItem_insp _ _).trans (if_neg hf)
  · exact (recordItem_insp _ _).trans (if_pos hf)

/-- Settles O30: how a block's end goes on, the record, and the frame. -/
theorem endOfBlockGoesOn : Obligations.EndOfBlockGoesOn := fun s =>
  ⟨endBlock s, rfl, endBlock_goesOn s, endBlock_recorded s, endBlock_frame s⟩

/-- Settles O31: each row is a length symbol, whose extra bits are read or missing. -/
theorem lengthElementsSetLength : Obligations.LengthElementsSetLength := by
  intro r hr s
  obtain ⟨sym, h257, h285, hbase, hextra, hexec⟩ := exists_symbol_of_mem_lengthRows hr
  rw [hbase, hextra, hexec]
  refine ⟨fun x hx => ⟨(lbase_add_extra_mem h257 h285 (streamField_lt hx.2)).2, ?_⟩, fun hshort => ?_⟩
  · rw [lengthSymbol, readBits_bind hx, Res.finish_ok]
    simp only [State.setRun, State.setRegs, State.setBitpos, State.setReader]
  · exact finish_raises (by rw [lengthSymbol, readBits_of_short hshort, Res.bind_raise]) rfl

/-- Settles O33: the headers' meanings, with the fixed tables the ones the code assignment gives. -/
theorem blockHeadersSelectTheBody : Obligations.BlockHeadersSelectTheBody := by
  refine fun b s => ⟨rfl, ?_, rfl⟩
  change Host.Outcome.next ((beginBlock b 1#2 .llsym s).setTabs { s.work.tabs with ll := fixedLL, d := fixedD }) = _
  rw [Laws.fixedLL_eq_buildCodes, Laws.fixedD_eq_buildCodes]
  rfl

end

section

/-! SUPPORT. Distances and the copy of a match. -/

namespace Sys2Proof.Machine

/-- The rows of R109 are the distance symbols in order, with DBASE and DEXTRA. -/
theorem distanceRows_eq : distanceRows = distInstrs.zipIdx.map fun p => (p.1, dbase p.2, dextra p.2) := by
  decide +kernel

/-- Each row of R109 is one distance symbol. -/
theorem exists_symbol_of_mem_distanceRows {r : Instr × Nat × Nat} (h : r ∈ distanceRows) :
    ∃ sym ≤ 29, r.2.1 = dbase sym ∧ r.2.2 = dextra sym ∧ ∀ s, exec r.1 s = (distSymbol sym s).finish := by
  rw [distanceRows_eq, List.mem_map] at h
  obtain ⟨⟨i, n⟩, hmem, rfl⟩ := h
  have hget : distInstrs[n]? = some i := List.mem_zipIdx_iff_getElem?.mp hmem
  have hn : n < 30 := (List.getElem?_eq_some_iff.mp hget).1
  exact ⟨n, by omega, by dsimp only, by dsimp only, exec_distInstrs hget⟩

/-- The state after a distance's extra bits: the cursor behind them, and DIST. -/
def State.withDist (s : State) (extra dist : Nat) : State :=
  (s.setBitpos (s.work.rd.bitpos + extra)).setRegs { s.work.regs with dist := BitVec.ofNat 16 dist }

section
variable {sym x : Nat} {s : State}

/-- A distance within the output: the copy, the record, and a literal/length symbol next (R235, R236). -/
theorem distSymbol_of_le (hx : s.nextField (dextra sym) x) (hd : dbase sym + x ≤ s.outLen.toNat) :
    distSymbol sym s =
      (copyMatch s.work.regs.length.toNat (dbase sym + x) (s.withDist (dextra sym) (dbase sym + x))).bind fun _ u =>
        .ok () ((recordItem (.copy u.work.regs.length.toNat (dbase sym + x)) u).setRun (.busy .llsym)) := by
  rw [distSymbol, readBits_bind hx]
  exact if_neg (Nat.not_lt.mpr hd)

/-- A distance beyond the output (R235). -/
theorem distSymbol_of_beyond (hx : s.nextField (dextra sym) x) (hd : s.outLen.toNat < dbase sym + x) :
    distSymbol sym s = .raise .badDistance (s.withDist (dextra sym) (dbase sym + x)) := by
  rw [distSymbol, readBits_bind hx]
  exact if_pos hd

theorem distSymbol_of_short (h : s.inputBits < s.work.rd.bitpos + dextra sym) :
    distSymbol sym s = .raise .unexpectedEnd s := by
  rw [distSymbol, readBits_of_short h, Res.bind_raise]

end

end Sys2Proof.Machine
end

section
open Sys2Proof Sys2Proof.Machine

/-- Settles O32: each row is a distance symbol; the match expander's two outcomes, and the two errors before it. -/
theorem distanceElementsCopyTheMatch : Obligations.DistanceElementsCopyTheMatch := by
  intro r hr s
  obtain ⟨sym, hsym, hbase, hextra, hexec⟩ := exists_symbol_of_mem_distanceRows hr
  rw [hbase, hextra, hexec]
  refine ⟨fun x hx hd hw hroom => ?_, fun x hx hd hw hlen hfull => ?_, fun x hx hd => ?_, fun hshort => ?_⟩
  · have hpos := (dbase_add_extra_mem hsym (streamField_lt hx.2)).1
    obtain ⟨u, hu, hframe, hlen, hcopied, hkept⟩ :=
      copyMatch_of_room (s := s.withDist (dextra sym) (dbase sym + x)) hpos hd hw hroom
    have hdone := distSymbol_of_le hx hd
    have hinsp := recordItem_insp (.copy u.work.regs.length.toNat (dbase sym + x)) u
    rw [hu, Res.bind_ok, recordItem_frame] at hdone
    generalize (recordItem _ u).work.insp = insp at hdone hinsp
    generalize u.outBuf = m, u.outLen = l at hframe hlen hcopied hkept
    subst hframe
    refine ⟨_, congrArg Res.finish hdone, hlen, hcopied, hkept, ?_, fun hf => hinsp.trans (if_neg hf),
      fun hf => hinsp.trans (if_pos hf)⟩
    simp only [State.withDist, State.setRun, State.setOut, State.setBitpos, State.setReader, State.setRegs,
      State.setInsp]
  · have hpos := (dbase_add_extra_mem hsym (streamField_lt hx.2)).1
    obtain ⟨u, hu, hframe⟩ :=
      copyMatch_of_full (s := s.withDist (dextra sym) (dbase sym + x)) hpos hd hw hlen hfull
    exact finish_raises (u := u) (by rw [distSymbol_of_le hx hd, hu, Res.bind_raise]) (by rw [hframe]; rfl)
  · exact finish_raises (distSymbol_of_beyond hx hd) rfl
  · exact finish_raises (distSymbol_of_short hshort) rfl

end

section

/-! SUPPORT. Stored blocks. -/

namespace Sys2Proof.Machine

/-- The state after LEN and NLEN, which start at bit `p`: the cursor behind them, and both registers. -/
def State.withStoredLengths (s : State) (p len nlen : Nat) : State :=
  (s.setBitpos (p + 32)).setRegs { s.work.regs with len := BitVec.ofNat 16 len, nlen := BitVec.ofNat 16 nlen }

section
variable {p len nlen k : Nat} {s : State} {bs : List Byte}

/-- A stored block with both its length fields: the checks of R213 in their order, then the copy. -/
theorem storedBlock_of_fields (hp : p = 8 * ((s.work.rd.bitpos + 7) / 8)) (hlen : (s.setBitpos p).nextField 16 len)
    (hnlen : (s.setBitpos (p + 16)).nextField 16 nlen) : storedBlock s =
      if len + nlen ≠ 65535 then .raise .storedMismatch (s.withStoredLengths p len nlen)
      else if s.inputBits < p + 32 + 8 * len then .raise .unexpectedEnd (s.withStoredLengths p len nlen)
      else (copyStored len (p / 8 + 4) (s.withStoredLengths p len nlen)).bind fun _ u =>
        .ok () (endBlock (u.setBitpos (u.work.rd.bitpos + 8 * len))) := by
  have hdata : (p + 32) / 8 = p / 8 + 4 := by omega
  rw [storedBlock, byteAlign, ← hp, ← hdata, readBits_bind hlen]
  simp only [State.setBitpos_setBitpos, State.setBitpos_work, readBits_setRegs_bind hnlen]
  simp only [State.withStoredLengths, State.setBitpos, State.setReader, State.setRegs, State.inputBits, Nat.add_assoc,
    Nat.reduceAdd]

/-- The stored copy with room for it, as an update of OUT and OUT_LEN. -/
theorem copyStored_appends (hb : s.inBuf.bytes (s.work.rd.base + k) len = some bs)
    (hr : s.outLen.toNat + len ≤ s.params.outCap.toNat) :
    ∃ m l, copyStored len k s = .ok () (s.setOut m l) ∧ s.appended (s.setOut m l) bs := by
  obtain ⟨u, hu, hframe, happ⟩ := copyStored_of_room hb hr
  exact ⟨u.outBuf, u.outLen, by rw [← hframe]; exact hu, by rw [← hframe]; exact happ⟩

/-- The state in which a stored block ends: the data behind the earlier output, and the cursor behind the data. -/
def State.withStoredData (s : State) (p len nlen : Nat) (m : Memory) (l : BitVec 31) : State :=
  ((s.withStoredLengths p len nlen).setOut m l).setBitpos (p + 32 + 8 * len)

/-- How a block ends depends on its header and the mode, which the stored data leave alone. -/
theorem State.goesOn_withStoredData {t : State} {m : Memory} {l : BitVec 31} :
    (s.withStoredData p len nlen m l).goesOn t ↔ s.goesOn t := Iff.rfl

theorem State.recorded_withStoredData {t : State} {m : Memory} {l : BitVec 31} {bits bytes : Nat} :
    (s.withStoredData p len nlen m l).recorded t bits bytes ↔ s.recorded t bits bytes := Iff.rfl

end

end Sys2Proof.Machine
end

section
open Sys2Proof Sys2Proof.Machine

/-- Settles O34: the checks in their order, then the copy's two outcomes and the end of the block. -/
theorem storedBlockCopies : Obligations.StoredBlockCopies := by
  intro s p len nlen hp hlen hnlen
  have hblock := storedBlock_of_fields hp hlen hnlen
  refine ⟨fun bs hsum hdata hbytes hroom => ?_, fun bs hsum hdata hbytes hpos hfull => ?_, fun hsum => ?_,
    fun hsum hshort => ?_⟩
  · rw [if_neg (not_not.mpr hsum), if_neg (Nat.not_lt.mpr hdata)] at hblock
    obtain ⟨m, l, hcopy, happ⟩ := copyStored_appends (s := s.withStoredLengths p len nlen) (k := p / 8 + 4)
      (by rw [← Nat.add_assoc]; exact hbytes) hroom
    rw [hcopy, Res.bind_ok] at hblock
    change storedBlock s = .ok () (endBlock (s.withStoredData p len nlen m l)) at hblock
    have hgoes := State.goesOn_withStoredData.mp (endBlock_goesOn (s.withStoredData p len nlen m l))
    have hrec := State.recorded_withStoredData.mp (endBlock_recorded (s.withStoredData p len nlen m l))
    have hframe := endBlock_frame (s.withStoredData p len nlen m l)
    have hcount : l.toNat = s.outLen.toNat + len := by rw [← Memory.bytes_length hbytes]; exact happ.1
    generalize endBlock (s.withStoredData p len nlen m l) = t at hblock hgoes hrec hframe
    refine ⟨t, congrArg Res.finish hblock, ?_, hgoes, ?_, ?_⟩
    · rw [hframe]; exact happ
    · rw [← hcount]; exact hrec
    · rw [hframe]
      simp only [State.withStoredData, State.withStoredLengths, State.setOut, State.setBitpos, State.setReader,
        State.setRegs]
  · rw [if_neg (not_not.mpr hsum), if_neg (Nat.not_lt.mpr hdata)] at hblock
    obtain ⟨u, hu, hframe⟩ := copyStored_of_full (s := s.withStoredLengths p len nlen) (k := p / 8 + 4)
      (by rw [← Nat.add_assoc]; exact hbytes) hpos hfull
    exact finish_raises (u := u) (by rw [hblock, hu, Res.bind_raise]) (by rw [hframe]; rfl)
  · exact finish_raises (hblock.trans (if_pos hsum)) rfl
  · exact finish_raises (hblock.trans ((if_neg (not_not.mpr hsum)).trans (if_pos hshort))) rfl

end

section

/-! SUPPORT. The code-length loop: repeats, the lengths put behind the ones before, and the loop's three ways on. -/

namespace Sys2Proof.Machine

/-! ### Repeats of code lengths -/

/-- A repeat past HLIT + HDIST (R225). -/
theorem repeatLengths_of_beyond {v n : Nat} {s : State} (h : s.lensWanted < s.work.regs.cli.toNat + n) :
    repeatLengths v n s = .raise .invalidTree s := if_pos h

/-- A repeat up to HLIT + HDIST. -/
theorem repeatLengths_of_room {v n : Nat} {s : State} (h : s.work.regs.cli.toNat + n ≤ s.lensWanted) :
    repeatLengths v n s = nextLength (putLengths v n s) := if_neg (Nat.not_lt.mpr h)

/-- CREP with a length to repeat. -/
theorem exec_crep_of_nextField {e : Nat} {s : State} (hcli : s.work.regs.cli ≠ 0#9) (h : s.nextField 2 e) :
    exec .crep s = (repeatLengths (s.work.tabs.lens.getD (s.work.regs.cli.toNat - 1) 0) (3 + e)
      (s.setBitpos (s.work.rd.bitpos + 2))).finish := by
  change execCrep s = _
  rw [execCrep, if_neg hcli, show clExtra 16 = 2 from rfl, readBits_bind h]
  rfl

theorem exec_czeroShort_of_nextField {e : Nat} {s : State} (h : s.nextField 3 e) :
    exec .czeroShort s = (repeatLengths 0 (3 + e) (s.setBitpos (s.work.rd.bitpos + 3))).finish := by
  change execCzeroShort s = _
  rw [execCzeroShort, show clExtra 17 = 3 from rfl, readBits_bind h]

theorem exec_czeroLong_of_nextField {e : Nat} {s : State} (h : s.nextField 7 e) :
    exec .czeroLong s = (repeatLengths 0 (11 + e) (s.setBitpos (s.work.rd.bitpos + 7))).finish := by
  change execCzeroLong s = _
  rw [execCzeroLong, show clExtra 18 = 7 from rfl, readBits_bind h]

/-! ### The loop's test -/

section
variable {s : State}

/-- With the lengths so far counted by CLI, `n` more go behind them. -/
theorem putLengths_of_length (v n : Nat) (h : s.work.tabs.lens.length = s.work.regs.cli.toNat) :
    putLengths v n s = (s.setTabs { s.work.tabs with lens := s.work.tabs.lens ++ List.replicate n v }).setRegs
      { s.work.regs with cli := BitVec.ofNat 9 (s.work.tabs.lens ++ List.replicate n v).length } := by
  rw [putLengths, ← h, List.take_length, List.length_append, List.length_replicate]

/-- Short of HLIT + HDIST lengths another code-length symbol comes next. -/
theorem nextLength_of_lt (h : s.work.regs.cli.toNat < s.lensWanted) : nextLength s = .ok () (s.setRun (.busy .clsym)) :=
  if_pos h

/-- At HLIT + HDIST lengths the tables are built. -/
theorem nextLength_of_le (h : s.lensWanted ≤ s.work.regs.cli.toNat) : nextLength s = buildTables s :=
  if_neg (Nat.not_lt.mpr h)

theorem not_overSubscribed_iff {limit : Nat} {len : List Nat} :
    ¬ overSubscribed limit len = true ↔ kraftSum limit len ≤ 2 ^ limit := by
  rw [overSubscribed, decide_eq_true_eq, Nat.not_lt]

/-- The distance lengths of a complete sequence are all that follow the literal/length lengths. -/
theorem take_drop_lens {lens : List Nat} (h : lens.length = s.lensWanted) :
    (lens.drop s.work.regs.hlit.toNat).take s.work.regs.hdist.toNat = lens.drop s.work.regs.hlit.toNat := by
  refine List.take_of_length_le ?_
  rw [List.length_drop, h, State.lensWanted]
  omega

/-- What the two builds leave (R226). -/
def State.withTables (s : State) : State :=
  (((s.setTabs { s.work.tabs with
      ll := buildCodes 15 (s.llLengths s.work.tabs.lens), d := buildCodes 15 (s.dLengths s.work.tabs.lens) }).setInsp
    { s.work.insp with treeBits := s.work.rd.bitpos - (s.work.insp.startBit + 3) }).setRun (.busy .llsym))

/-- A complete sequence is checked, then the tables are built (R226, R227, R163). -/
theorem buildTables_of_length (h : s.work.tabs.lens.length = s.lensWanted) : buildTables s =
    if (s.llLengths s.work.tabs.lens).getD 256 0 = 0 then .raise .invalidTree s
    else if overSubscribed 15 (s.llLengths s.work.tabs.lens) then .raise .invalidTree s
    else if overSubscribed 15 (s.dLengths s.work.tabs.lens) then .raise .invalidTree s
    else .ok () s.withTables := by
  rw [buildTables, take_drop_lens h]
  rfl

theorem buildTables_of_legal (h : s.work.tabs.lens.length = s.lensWanted) (hl : s.treesLegal s.work.tabs.lens) :
    buildTables s = .ok () s.withTables := by
  obtain ⟨h256, hll, hd⟩ := hl
  rw [buildTables_of_length h, if_neg h256, if_neg (not_overSubscribed_iff.mpr hll),
    if_neg (not_overSubscribed_iff.mpr hd)]

theorem buildTables_of_not_legal (h : s.work.tabs.lens.length = s.lensWanted) (hl : ¬ s.treesLegal s.work.tabs.lens) :
    buildTables s = .raise .invalidTree s := by
  rw [buildTables_of_length h]
  split_ifs with h256 hll hd
  · rfl
  · rfl
  · rfl
  · exact absurd ⟨h256, not_overSubscribed_iff.mp hll, not_overSubscribed_iff.mp hd⟩ hl

end

/-- The state with the lengths `new` produced by an element of `bits` extra bits, before the loop's test. -/
def State.withLengths (s : State) (bits : Nat) (new : List Nat) : State :=
  ((s.setBitpos (s.work.rd.bitpos + bits)).setTabs { s.work.tabs with lens := s.work.tabs.lens ++ new }).setRegs
    { s.work.regs with cli := BitVec.ofNat 9 (s.work.tabs.lens ++ new).length }

/-- The loop's test after an element, in its three outcomes. -/
theorem nextLength_lengthsProduced {s : State} (h : s.lengthsInProgress) (bits v n : Nat)
    (hn : s.work.tabs.lens.length + n ≤ s.lensWanted) :
    ∃ t, (nextLength (putLengths v n (s.setBitpos (s.work.rd.bitpos + bits)))).finish = .next t ∧
      s.lengthsProduced t bits (List.replicate n v) := by
  obtain ⟨-, hlit, -, hdist, hlens, -⟩ := h
  have hput : putLengths v n (s.setBitpos (s.work.rd.bitpos + bits)) = s.withLengths bits (List.replicate n v) :=
    putLengths_of_length v n hlens
  have hlen : (s.work.tabs.lens ++ List.replicate n v).length ≤ s.lensWanted := by simpa using hn
  have hcli : (s.withLengths bits (List.replicate n v)).work.regs.cli.toNat =
      (s.work.tabs.lens ++ List.replicate n v).length := by
    refine (BitVec.toNat_ofNat _ _).trans (Nat.mod_eq_of_lt ?_)
    rw [State.lensWanted] at hlen
    omega
  rw [hput]
  generalize List.replicate n v = new at hlen hcli
  rcases Nat.lt_or_eq_of_le hlen with hlt | heq
  · refine ⟨_, congrArg Res.finish (nextLength_of_lt (s := s.withLengths bits new) (hcli.trans_lt hlt)), fun _ => ?_,
      fun heq => absurd heq hlt.ne, fun heq => absurd heq hlt.ne⟩
    simp only [State.withLengths, State.setRun, State.setRegs, State.setTabs, State.setBitpos, State.setReader]
  · rw [nextLength_of_le (s := s.withLengths bits new) (heq.ge.trans_eq hcli.symm)]
    by_cases hl : s.treesLegal (s.work.tabs.lens ++ new)
    · refine ⟨_, congrArg Res.finish (buildTables_of_legal (s := s.withLengths bits new) heq hl),
        fun hlt => absurd heq hlt.ne, fun _ _ => ?_, fun _ hn => absurd hl hn⟩
      simp only [State.withTables, State.withLengths, State.llLengths, State.dLengths, State.setRun, State.setRegs,
        State.setTabs, State.setInsp, State.setBitpos, State.setReader]
    · exact ⟨_, congrArg Res.finish (buildTables_of_not_legal (s := s.withLengths bits new) heq hl),
        fun hlt => absurd heq hlt.ne, fun _ hy => absurd hy hl, fun _ _ => raised_of_engineFrame rfl⟩

end Sys2Proof.Machine
end

section
open Sys2Proof Sys2Proof.Machine

/-- Settles O36: each element puts its lengths behind the ones before, and the loop's test has three outcomes. -/
theorem codeLengthElementsProduceLengths : Obligations.CodeLengthElementsProduceLengths := by
  intro s h
  have ⟨_, _, _, _, hlens, hmore, _⟩ := h
  refine ⟨fun c => ?_, fun e v he hlast hn => ?_, fun e he hn => ?_, fun e he hn => ?_⟩
  · exact nextLength_lengthsProduced h 0 c.toNat 1 (by rw [hlens]; exact hmore)
  · have hv : s.work.tabs.lens.getD (s.work.regs.cli.toNat - 1) 0 = v := by
      rw [List.getD_eq_getElem?_getD, ← hlens, ← List.getLast?_eq_getElem?, hlast, Option.getD_some]
    have hcli : s.work.regs.cli ≠ 0#9 := by
      intro hzero
      rw [hzero] at hlens
      rw [List.length_eq_zero_iff.mp hlens] at hlast
      cases hlast
    rw [exec_crep_of_nextField hcli he, hv, repeatLengths_of_room (hlens ▸ hn)]
    exact nextLength_lengthsProduced h 2 v (3 + e) hn
  · rw [exec_czeroShort_of_nextField he, repeatLengths_of_room (hlens ▸ hn)]
    exact nextLength_lengthsProduced h 3 0 (3 + e) hn
  · rw [exec_czeroLong_of_nextField he, repeatLengths_of_room (hlens ▸ hn)]
    exact nextLength_lengthsProduced h 7 0 (11 + e) hn

/-- Settles O37: the test for a first length comes before the extra bits, the test for the end after them. -/
theorem codeLengthRepeatsRaise : Obligations.CodeLengthRepeatsRaise := by
  refine fun s => ⟨fun hcli => ?_, fun e hcli he hend => ?_, fun e he hend => ?_, fun e he hend => ?_⟩
  · exact ⟨raiseError .invalidTree s, if_pos hcli, rfl⟩
  · rw [exec_crep_of_nextField hcli he]
    exact finish_raises (repeatLengths_of_beyond hend) rfl
  · rw [exec_czeroShort_of_nextField he]
    exact finish_raises (repeatLengths_of_beyond hend) rfl
  · rw [exec_czeroLong_of_nextField he]
    exact finish_raises (repeatLengths_of_beyond hend) rfl

end

section

/-! SUPPORT. The dynamic header: its three-bit fields, read in the permuted order, are the lengths of the code-length
code. -/

namespace Sys2Proof.Machine

/-- The list `acc` with the entries at the indices `order` taken from `cl`. -/
def copyEntries (cl order acc : List Nat) : List Nat := order.foldl (fun l c => l.set c (cl.getD c 0)) acc

@[simp] theorem length_copyEntries (cl order acc : List Nat) : (copyEntries cl order acc).length = acc.length := by
  induction order generalizing acc with
  | nil => rfl
  | cons c rest ih => exact (ih _).trans List.length_set

theorem getElem?_copyEntries (cl order acc : List Nat) {j : Nat} (hj : j < acc.length) :
    (copyEntries cl order acc)[j]? = some (if j ∈ order then cl.getD j 0 else acc.getD j 0) := by
  induction order generalizing acc with
  | nil => simp [copyEntries, hj]
  | cons c rest ih =>
    refine (ih (acc.set c (cl.getD c 0)) (by rwa [List.length_set])).trans ?_
    by_cases hmem : j ∈ rest
    · simp [hmem]
    · by_cases hc : c = j
      · subst hc; simp [hmem, hj]
      · simp [hmem, hc, Ne.symm hc]

/-- Three-bit fields that give the entries of `cl` named by `order` are read into those entries (R221). -/
theorem readClLengths_of_fields {cl order : List Nat} (acc : List Nat) {s : State}
    (h : ∀ i (hi : i < order.length), (s.setBitpos (s.work.rd.bitpos + 3 * i)).nextField 3 (cl.getD order[i] 0)) :
    readClLengths order acc s =
      .ok (copyEntries cl order acc) (s.setBitpos (s.work.rd.bitpos + 3 * order.length)) := by
  induction order generalizing acc s with
  | nil => rfl
  | cons c rest ih =>
    have h0 : s.nextField 3 (cl.getD c 0) := h 0 (by simp)
    rw [readClLengths, readBits_bind h0, ih]
    · simp only [State.setBitpos_setBitpos, State.setBitpos_work, List.length_cons, copyEntries, List.foldl_cons]
      congr 2
      omega
    · intro i hi
      have := h (i + 1) (by simpa using hi)
      simp only [State.setBitpos_setBitpos, State.setBitpos_work, List.getElem_cons_succ] at this ⊢
      rwa [show s.work.rd.bitpos + 3 + 3 * i = s.work.rd.bitpos + 3 * (i + 1) by omega]

/-- ORDER names every code-length symbol (R104). -/
theorem exists_clOrder_eq {j : Nat} (hj : j < 19) : ∃ i < 19, clOrder[i]? = some j := by
  revert j
  decide

/-- A list of 19 lengths that is 0 at every symbol behind the first `n` of ORDER is determined by those. -/
theorem copyEntries_clOrder {cl : List Nat} {n : Nat} (hlen : cl.length = 19)
    (hrest : ∀ i, n ≤ i → i < 19 → cl.getD (clOrder.getD i 0) 0 = 0) :
    copyEntries cl (clOrder.take n) (List.replicate 19 0) = cl := by
  refine List.ext_getElem (by simp [hlen]) fun j hj hjcl => ?_
  have hj19 : j < 19 := hlen ▸ hjcl
  rw [← Option.some_inj, ← List.getElem?_eq_getElem, getElem?_copyEntries _ _ _ (by simpa using hj),
    List.getD_eq_getElem _ _ hjcl, Option.some_inj]
  split_ifs with hmem
  · rfl
  · obtain ⟨i, hi, hij⟩ := exists_clOrder_eq hj19
    have hni : n ≤ i := by
      by_contra hlt
      exact hmem (List.mem_of_getElem? ((List.getElem?_take_of_lt (Nat.lt_of_not_le hlt)).trans hij))
    have hzero := hrest i hni hi
    rw [List.getD_eq_getElem?_getD (l := clOrder), hij, Option.getD_some, List.getD_eq_getElem _ _ hjcl] at hzero
    rw [hzero, List.getD_replicate _ hj19]

/-- The state after a dynamic header's fields: the cursor behind them, HLIT, HDIST and HCLEN, and no length yet. -/
def State.withHeader (s : State) (a b c : Nat) : State :=
  (s.setBitpos (s.work.rd.bitpos + 14 + 3 * (c + 4))).setRegs { s.work.regs with
    hlit := BitVec.ofNat 9 (a + 257), hdist := BitVec.ofNat 6 (b + 1), hclen := BitVec.ofNat 5 (c + 4), cli := 0#9 }

/-- A dynamic header with its fields: the code-length table is checked, then built (R220, R221, R163). -/
theorem dynHeader_of_fields {s : State} {a b c : Nat} {cl : List Nat} (ha : s.nextField 5 a)
    (hb : (s.setBitpos (s.work.rd.bitpos + 5)).nextField 5 b)
    (hc : (s.setBitpos (s.work.rd.bitpos + 10)).nextField 4 c) (hlen : cl.length = 19)
    (hfields : ∀ i, i < c + 4 →
      (s.setBitpos (s.work.rd.bitpos + 14 + 3 * i)).nextField 3 (cl.getD (clOrder.getD i 0) 0))
    (hrest : ∀ i, c + 4 ≤ i → i < 19 → cl.getD (clOrder.getD i 0) 0 = 0) :
    dynHeader s = if overSubscribed 7 cl then .raise .invalidTree (s.withHeader a b c)
      else .ok () (((s.withHeader a b c).setTabs { s.work.tabs with cl := buildCodes 7 cl, lens := [] }).setRun
        (.busy .clsym)) := by
  have hc16 : c < 16 := streamField_lt hc.2
  have hcount : (clOrder.take (c + 4)).length = c + 4 :=
    List.length_take.trans (Nat.min_eq_left (Nat.add_le_add_right (Nat.le_of_lt_succ hc16) 4))
  simp only [dynHeader, readBits_bind ha, readBits_setRegs_bind hb, readBits_setRegs_bind hc, State.setRegs_setRegs,
    State.setBitpos_setBitpos, State.setBitpos_work, State.setRegs_work, Nat.add_assoc, Nat.reduceAdd]
  rw [readClLengths_of_fields (cl := cl), Res.bind_ok]
  · rw [show Config.numCL = 19 from rfl, copyEntries_clOrder hlen hrest, hcount]
    simp only [State.withHeader, State.setRegs_setBitpos, State.setBitpos_setBitpos, State.setBitpos_work,
      State.setRegs_work, Nat.add_assoc]
    rfl
  · intro i hi
    have hi' : i < c + 4 ∧ i < clOrder.length := by simpa using hi
    have := hfields i hi'.1
    rw [List.getD_eq_getElem clOrder _ hi'.2, Nat.add_assoc] at this
    simpa [State.setRegs_setBitpos, Nat.add_assoc] using this

end Sys2Proof.Machine
end

section
open Sys2Proof Sys2Proof.Machine

/-- Settles O35: the header's fields give the code-length lengths, whose Kraft sum decides. -/
theorem dynamicHeaderBuildsTheLengthCode : Obligations.DynamicHeaderBuildsTheLengthCode := by
  intro s a b c cl ha hb hc hlen hfields hrest
  have hheader := dynHeader_of_fields ha hb hc hlen hfields hrest
  refine ⟨fun hk => ?_, fun hk => finish_raises (hheader.trans (if_pos ?_)) rfl⟩
  · change (dynHeader s).finish = _
    rw [hheader, if_neg (not_overSubscribed_iff.mpr hk), Res.finish_ok]
    simp only [State.withHeader, State.setRun, State.setRegs, State.setTabs, State.setBitpos, State.setReader]
  · rw [overSubscribed, decide_eq_true_eq]; exact hk

end

section

/-! SUPPORT. The zlib framing: the header's check and the trailer's. -/

namespace Sys2Proof.Machine

theorem zlibHeaderOk_iff (v : Nat) :
    zlibHeaderOk v = true ↔ v % 31 = 0 ∧ v / 256 % 16 = 8 ∧ v / 4096 % 16 ≤ 7 ∧ v / 32 % 2 = 0 := by
  simp only [zlibHeaderOk, Bool.and_eq_true, decide_eq_true_eq, and_assoc]

/-- Of a header with CM 8, FDICT 0 and CINFO at most 7 only the divisibility by 31 is left to check (R241). -/
theorem zlibHeaderOk_zhdrWord (cinfo : BitVec 3) (flevel : BitVec 2) (fcheck : BitVec 5) :
    zlibHeaderOk (zhdrWord cinfo flevel fcheck) = true ↔ zhdrWord cinfo flevel fcheck % 31 = 0 := by
  have h1 := cinfo.isLt
  have h2 := flevel.isLt
  have h3 := fcheck.isLt
  have hcm : zhdrWord cinfo flevel fcheck / 256 % 16 = 8 := by rw [zhdrWord]; omega
  have hcinfo : zhdrWord cinfo flevel fcheck / 4096 % 16 ≤ 7 := by rw [zhdrWord]; omega
  have hfdict : zhdrWord cinfo flevel fcheck / 32 % 2 = 0 := by rw [zhdrWord]; omega
  simp only [zlibHeaderOk_iff, hcm, hcinfo, hfdict, and_self, and_true]

theorem readAllOut_of_bytes {out : List Byte} {s : State} (h : s.outBuf.bytes 0 s.outLen.toNat = some out) :
    readAllOut s = .ok out s := by
  rw [readAllOut, h]

theorem ignoreAdler_eq_false_iff (s : State) : s.ignoreAdler = false ↔ s.cfgInflate = 0#1 := by
  unfold State.ignoreAdler
  generalize s.cfgInflate = c
  revert c
  decide

/-- S1 and S2 hold the two halves of the sum (R245). -/
def State.withSums (s : State) (sum : Word) : State :=
  s.setRegs { s.work.regs with s1 := (sum.extractLsb' 0 16).zeroExtend 32, s2 := (sum.extractLsb' 16 16).zeroExtend 32 }

/-- The trailer's check, with all of OUT written. -/
theorem zlibTrailer_of_bytes {out : List Byte} {s : State} (a : Word) (h : s.outBuf.bytes 0 s.outLen.toNat = some out) :
    zlibTrailer a s = if s.cfgInflate = 0#1 ∧ adler32 out ≠ a then .raise .badAdler (s.withSums (adler32 out))
      else .ok () (complete (s.withSums (adler32 out))) := by
  rw [zlibTrailer, readAllOut_of_bytes h, Res.bind_ok]
  simp only [ignoreAdler_eq_false_iff]
  rfl

end Sys2Proof.Machine
end

section
open Sys2Proof Sys2Proof.Machine

/-- Settles O38: the header's own fields are right, so its divisibility by 31 decides. -/
theorem zlibHeaderIsChecked : Obligations.ZlibHeaderIsChecked := by
  refine fun cinfo flevel fcheck s => ⟨fun h => ?_, fun h => ?_⟩
  · exact congrArg Res.finish (if_pos ((zlibHeaderOk_zhdrWord cinfo flevel fcheck).mpr h))
  · exact finish_raises (if_neg (mt (zlibHeaderOk_zhdrWord cinfo flevel fcheck).mp h)) rfl

/-- Settles O39: the trailer's two outcomes, told apart by IGNORE_ADLER32 and the sum. -/
theorem zlibTrailerIsChecked : Obligations.ZlibTrailerIsChecked := by
  refine fun a out s hout => ⟨fun h => ?_, fun hne hcheck => ?_⟩
  · have hpass : ¬ (s.cfgInflate = 0#1 ∧ adler32 out ≠ a) := by
      rintro ⟨hcheck, hne⟩
      exact h.elim hne fun hignore => absurd (hignore.symm.trans hcheck) (by decide)
    exact ⟨_, congrArg Res.finish ((zlibTrailer_of_bytes a hout).trans (if_neg hpass)), rfl⟩
  · exact finish_raises ((zlibTrailer_of_bytes a hout).trans (if_pos ⟨hcheck, hne⟩)) rfl

end

section

/-! SUPPORT. How many bits the bit writer appends for a symbol, a header and a block. -/

namespace Sys2Proof.Machine

@[simp] theorem length_alignBits (w : Nat) : (alignBits w).length = alignPad w := List.length_replicate

@[simp] theorem length_codeBits (T : HuffTable) (s : Nat) : (codeBits T s).length = T.len.getD s 0 :=
  length_writeCode _ _

theorem length_itemBits (ll d : HuffTable) (i : LzItem) : (itemBits ll d i).length = itemCost ll d i := by
  cases i with
  | lit b => exact length_codeBits ll b.toNat
  | copy len dist => simp only [itemBits, itemCost, List.length_append, length_codeBits, length_writeBits]

theorem length_symbolBits (ll d : HuffTable) (syms : List LzItem) :
    (symbolBits ll d syms).length = (syms.map (itemCost ll d)).sum + ll.len.getD 256 0 := by
  simp only [symbolBits, List.length_append, List.length_flatMap, length_itemBits, length_codeBits]

/-- ORDER names the 19 code-length symbols, so a header of at most 19 fields has as many as HCLEN says (R95). -/
theorem length_dynHeaderBits {p : BlockPlan} (h : p.hclen ≤ 19) : (dynHeaderBits p).length = dynHeaderCost p := by
  have horder : (clOrder.take p.hclen).length = p.hclen := List.length_take.trans (Nat.min_eq_left h)
  simp only [dynHeaderBits, dynHeaderCost, List.length_append, List.length_flatMap, length_writeBits, length_codeBits,
    buildCodes_len, List.map_const', List.sum_replicate, horder, smul_eq_mul]
  omega

theorem length_storedBits (w : Nat) (bs : List Byte) :
    (storedBits w bs).length = alignPad w + 32 + 8 * bs.length := by
  rw [storedBits, ← unpackBits]
  simp only [List.length_append, length_alignBits, length_writeBits, length_unpackBits]

end Sys2Proof.Machine
end

section
open Sys2Proof Sys2Proof.Machine

/-- Settles O23: the three bits of the header, then the body of each type. -/
theorem blockSizeIsTheBitsEmitted : Obligations.BlockSizeIsTheBitsEmitted := by
  intro w final bs p hlen hclen
  rw [blockBits, blockCost, List.length_append, List.length_append, length_writeBits, length_writeBits]
  split_ifs with hstored hfixed
  · rw [length_storedBits, hlen]; omega
  · rw [length_symbolBits]; omega
  · rw [List.length_append, length_dynHeaderBits hclen, length_symbolBits]; omega

end

section

/-! SUPPORT. The run-length coding of code lengths (R272): the items of each run stand for the run. -/

namespace Sys2Proof.Machine

/-- The runs stand for the sequence. -/
theorem flatMap_runs (q : List Nat) : (runs q).flatMap (fun r => List.replicate r.2 r.1) = q := by
  induction q with
  | nil => rfl
  | cons v rest ih =>
    rw [runs]
    split
    · rename_i w n more hruns
      rw [hruns, List.flatMap_cons] at ih
      split_ifs with hv
      · subst hv
        rw [List.flatMap_cons, List.replicate_succ, List.cons_append, ih]
      · rw [List.flatMap_cons, List.flatMap_cons, ih]
        rfl
    · rename_i hruns
      rw [hruns] at ih
      rw [← ih]
      rfl

/-- A length written `n` times singly. -/
theorem expandItems_replicate_clen {v : Nat} (hv : v ≤ 15) (n : Nat) (rev : List Nat) (rest : List ClItem) :
    expandItems rev (List.replicate n (.clen v) ++ rest) = expandItems (List.replicate n v ++ rev) rest := by
  induction n generalizing rev with
  | zero => rfl
  | succ n ih =>
    rw [List.replicate_succ, List.cons_append, expandItems, if_pos hv, ih, List.replicate_succ',
      List.append_assoc]
    rfl

/-- Repeating `k` and then the other `n - k` times is repeating `n` times. -/
theorem replicate_sub_append {α : Type} {k n : Nat} (h : k ≤ n) (v : α) (rev : List α) :
    List.replicate (n - k) v ++ (List.replicate k v ++ rev) = List.replicate n v ++ rev := by
  rw [← List.append_assoc, List.replicate_append_replicate, Nat.sub_add_cancel h]

/-- A run of zeros. -/
theorem expandItems_zeroRun {fuel n : Nat} (h : n ≤ fuel) (rev : List Nat) (rest : List ClItem) :
    expandItems rev (zeroRun fuel n ++ rest) = expandItems (List.replicate n 0 ++ rev) rest := by
  induction fuel generalizing n rev with
  | zero => rw [Nat.le_zero.mp h]; rfl
  | succ k ih =>
    rw [zeroRun]
    split_ifs with hlong hshort
    · rw [List.cons_append, expandItems, if_pos (by omega), ih (by omega), replicate_sub_append (Nat.min_le_left _ _)]
    · rw [List.singleton_append, expandItems, if_pos (by omega)]
    · exact expandItems_replicate_clen (by decide) n rev rest

/-- Repeats of a length that comes last so far. -/
theorem expandItems_repRun {v fuel n : Nat} (hv : v ≤ 15) (h : n ≤ fuel) (rev : List Nat) (rest : List ClItem) :
    expandItems (v :: rev) (repRun v fuel n ++ rest) = expandItems (List.replicate n v ++ v :: rev) rest := by
  induction fuel generalizing n rev with
  | zero => rw [Nat.le_zero.mp h]; rfl
  | succ k ih =>
    rw [repRun]
    split_ifs with hrep
    · have hhead : List.replicate (min n 6) v ++ v :: rev = v :: (List.replicate (min n 6) v ++ rev) := by
        rw [← List.singleton_append, ← List.append_assoc, ← List.replicate_succ', List.replicate_succ, List.cons_append]
      rw [List.cons_append, expandItems, if_pos (by omega), hhead, ih (by omega), ← hhead,
        replicate_sub_append (Nat.min_le_left _ _)]
    · exact expandItems_replicate_clen hv n (v :: rev) rest

/-- The items of one run stand for the run. -/
theorem expandItems_runItems {v n : Nat} (hv : v ≤ 15) (rev : List Nat) (rest : List ClItem) :
    expandItems rev (runItems (v, n) ++ rest) = expandItems (List.replicate n v ++ rev) rest := by
  rw [runItems]
  split_ifs with hzero hlong
  · obtain rfl : v = 0 := hzero
    exact expandItems_zeroRun le_rfl rev rest
  · have hn : 1 ≤ n := (by decide : 1 ≤ 4).trans hlong
    rw [List.cons_append, expandItems, if_pos hv, expandItems_repRun hv (Nat.sub_le n 1)]
    exact congrArg (expandItems · rest) (replicate_sub_append hn v rev)
  · exact expandItems_replicate_clen hv n rev rest

/-- Each run repeats a length of the sequence. -/
theorem fst_mem_of_mem_runs {q : List Nat} {r : Nat × Nat} (h : r ∈ runs q) : r.1 ∈ q := by
  induction q with
  | nil => cases h
  | cons v rest ih =>
    rw [runs] at h
    split at h
    · rename_i w n more hruns
      rw [hruns] at ih
      split_ifs at h with hv
      · rcases List.mem_cons.mp h with rfl | hmore
        · exact List.mem_cons_self
        · exact List.mem_cons_of_mem v (ih (List.mem_cons_of_mem _ hmore))
      · rcases List.mem_cons.mp h with rfl | hmore
        · exact List.mem_cons_self
        · exact List.mem_cons_of_mem v (ih hmore)
    · rw [List.mem_singleton.mp h]
      exact List.mem_cons_self

/-- The items of runs, one after the other, stand for the runs. -/
theorem expandItems_flatMap_runItems {rs : List (Nat × Nat)} (h : ∀ r ∈ rs, r.1 ≤ 15) (rev : List Nat) :
    expandItems rev (rs.flatMap runItems) = some (rev.reverse ++ rs.flatMap fun r => List.replicate r.2 r.1) := by
  induction rs generalizing rev with
  | nil => exact congrArg some (List.append_nil _).symm
  | cons r rest ih =>
    obtain ⟨hr, hrest⟩ := List.forall_mem_cons.mp h
    rw [List.flatMap_cons, expandItems_runItems hr, ih hrest, List.reverse_append, List.reverse_replicate,
      List.append_assoc, List.flatMap_cons]

end Sys2Proof.Machine
end

section
open Sys2Proof Sys2Proof.Machine

/-- Settles O22: the coding is that of the runs, which stand for the sequence. -/
theorem runLengthCodingExpands : Obligations.RunLengthCodingExpands := by
  intro q hq
  rw [rle, expandItems_flatMap_runItems fun r hr => hq r.1 (fst_mem_of_mem_runs hr), flatMap_runs]
  rfl

end

section

/-! SUPPORT. The compressor's configuration check (R261). -/

namespace Sys2Proof.Machine

theorem ne_two_pow_log2_iff (w : Nat) : w ≠ 2 ^ w.log2 ↔ ∀ k, w ≠ 2 ^ k := by
  refine ⟨fun h k hk => h ?_, fun h => h _⟩
  rw [hk, Nat.log2_two_pow]

section
variable {s : State}

theorem deflateConfigError_of_window (h : s.windowSize.toNat < 256 ∨ 32768 < s.windowSize.toNat) :
    deflateConfigError s = some .invalidWindowSize := if_pos h

theorem deflateConfigError_of_not_power (h1 : 256 ≤ s.windowSize.toNat) (h2 : s.windowSize.toNat ≤ 32768)
    (h : ∀ k, s.windowSize.toNat ≠ 2 ^ k) : deflateConfigError s = some .powerOfTwoRequired := by
  rw [deflateConfigError, if_neg (by omega), if_pos ((ne_two_pow_log2_iff _).mpr h)]

theorem deflateConfigError_of_badConfig {k : Nat} (h1 : 8 ≤ k) (h2 : k ≤ 15) (hw : s.windowSize.toNat = 2 ^ k)
    (h : s.btypeLimit = 3 ∨ s.minMatch.toNat < 3 ∨ 258 < s.minMatch.toNat ∨ s.niceMatch.toNat < 3 ∨
      258 < s.niceMatch.toNat) : deflateConfigError s = some .badConfig := by
  have hlow : 2 ^ 8 ≤ s.windowSize.toNat := hw ▸ Nat.pow_le_pow_right (by decide) h1
  have hhigh : s.windowSize.toNat ≤ 2 ^ 15 := hw ▸ Nat.pow_le_pow_right (by decide) h2
  have hpow : ¬ s.windowSize.toNat ≠ 2 ^ s.windowSize.toNat.log2 :=
    fun hne => (ne_two_pow_log2_iff _).mp hne k hw
  rw [deflateConfigError, if_neg (by omega), if_neg hpow]
  split_ifs with hbtype hmin hnice
  · rfl
  · rfl
  · rfl
  · omega

/-- Both compress commands check the configuration first, and end with the error it gives. -/
theorem exec_compress_of_configError {i : Instr} {k : ErrKind} (hi : i = .deflate ∨ i = .zlibCompress)
    (hs : s.canLaunch) (hk : deflateConfigError s = some k) : ∃ t, exec i s = .next t ∧ s.commandFailed k t := by
  have hstart : deflateConfigError (startCommand s) = some k := hk
  have hdeflate : deflateCommand (startCommand s) = .raise k (startCommand s) := by rw [deflateCommand, hstart]
  have hzlib : zlibCompressCommand (startCommand s) = .raise k (startCommand s) := by rw [zlibCompressCommand, hstart]
  refine ⟨raiseError k (startCommand s), ?_, rfl⟩
  rcases hi with rfl | rfl
  · exact (onCommand_of_canLaunch hs).trans (congrArg Res.finish hdeflate)
  · exact (onCommand_of_canLaunch hs).trans (congrArg Res.finish hzlib)

end

end Sys2Proof.Machine
end

section
open Sys2Proof Sys2Proof.Machine

/-- Settles O49: the check's first error in its order, which both commands raise before they read IN. -/
theorem compressConfigurationIsChecked : Obligations.CompressConfigurationIsChecked := fun _ _ hi hs =>
  ⟨fun hw => exec_compress_of_configError hi hs (deflateConfigError_of_window hw),
    fun h1 h2 hp => exec_compress_of_configError hi hs (deflateConfigError_of_not_power h1 h2 hp),
    fun _ h1 h2 hw h => exec_compress_of_configError hi hs (deflateConfigError_of_badConfig h1 h2 hw h)⟩

end

section

/-! SUPPORT. A stream of stored blocks read back: the bits that come next as fields and bytes, one block in two steps,
then the stream block after block. -/

namespace Sys2Proof.Machine

/-! ### The bits that come next, taken apart -/

namespace State
variable {s t : State} {as bs : List Bool}

/-- What comes next depends on IN and the bit reader, and on nothing else. -/
theorem nextBits_congr (hin : t.inBuf = s.inBuf) (hrd : t.work.rd = s.work.rd) : t.nextBits as ↔ s.nextBits as := by
  simp only [nextBits, streamBit, inputBits, hin, hrd]

/-- The first part of what comes next comes next. -/
theorem nextBits_left (h : s.nextBits (as ++ bs)) : s.nextBits as := by
  obtain ⟨hroom, hbits⟩ := h
  rw [List.length_append] at hroom hbits
  exact ⟨by omega, fun i hi => by rw [hbits i (by omega), List.getElem?_append_left hi]⟩

/-- The second part comes next behind the first. -/
theorem nextBits_right (h : s.nextBits (as ++ bs)) : (s.setBitpos (s.work.rd.bitpos + as.length)).nextBits bs := by
  obtain ⟨hroom, hbits⟩ := h
  rw [List.length_append] at hroom hbits
  refine ⟨(Nat.add_assoc _ _ _).trans_le hroom, fun i hi => ?_⟩
  have hbit := hbits (as.length + i) (by omega)
  rw [List.getElem?_append_right (Nat.le_add_right _ _), Nat.add_sub_cancel_left, ← Nat.add_assoc] at hbit
  exact hbit

/-- A number written comes next as the field that holds it. -/
theorem nextField_of_nextBits {v n : Nat} (hv : v < 2 ^ n) (h : s.nextBits (writeBits v n)) : s.nextField n v := by
  obtain ⟨hroom, hbits⟩ := h
  rw [length_writeBits] at hroom hbits
  have hbit (i : Nat) (hi : i < n) : streamBit s (s.work.rd.bitpos + i) = some (v.testBit i) := by
    rw [hbits i hi, writeBits, List.getElem?_map, List.getElem?_range hi, Option.map_some]
  obtain ⟨w, hw⟩ := Option.isSome_iff_exists.mp
    ((streamField_isSome_iff s s.work.rd.bitpos n).mpr fun i hi => by rw [hbit i hi]; rfl)
  have heq : w = v := Nat.eq_of_testBit_eq fun i => by
    by_cases hi : i < n
    · exact Option.some.inj ((streamField_testBit hw i hi).symm.trans (hbit i hi))
    · have hle : 2 ^ n ≤ 2 ^ i := Nat.pow_le_pow_right (by decide) (Nat.le_of_not_lt hi)
      rw [Nat.testBit_lt_two_pow ((streamField_lt hw).trans_le hle), Nat.testBit_lt_two_pow (hv.trans_le hle)]
  exact ⟨hroom, heq ▸ hw⟩

/-- Bytes that come next at a byte boundary stand in IN. -/
theorem bytes_of_nextBits {k : Nat} {data : List Byte} (hk : s.work.rd.bitpos = 8 * k)
    (h : s.nextBits (unpackBits data)) : s.inBuf.bytes (s.work.rd.base + k) data.length = some data := by
  obtain ⟨-, hbits⟩ := h
  rw [length_unpackBits] at hbits
  refine (Memory.bytes_eq_some_iff _ _ _ _).mpr ⟨rfl, fun i hi => ?_⟩
  have hbit (j : Nat) (hj : j < 8) :
      (s.inBuf.read (s.work.rd.base + k + i)).map (fun b => b.getLsbD j) = some (data[i].getLsbD j) := by
    have := hbits (8 * i + j) (by omega)
    rwa [streamBit, getElem?_unpackBits, hk, show (8 * k + (8 * i + j)) / 8 = k + i by omega,
      show (8 * k + (8 * i + j)) % 8 = j by omega, show (8 * i + j) / 8 = i by omega,
      show (8 * i + j) % 8 = j by omega, List.getElem?_eq_getElem hi, ← Nat.add_assoc] at this
  obtain ⟨b, hb, -⟩ := Option.map_eq_some_iff.mp (hbit 0 (by decide))
  rw [hb, List.getElem?_eq_getElem hi]
  refine congrArg some (BitVec.eq_of_getLsbD_eq fun j hj => ?_)
  have := hbit j hj
  rw [hb] at this
  exact Option.some.inj this

end State

/-! ### One stored block -/

/-- NLEN is the ones' complement of LEN (R213, R266). -/
theorem add_xor_ones {n : Nat} (h : n ≤ 65535) : n + (n ^^^ 0xFFFF) = 65535 := by
  have hn : (BitVec.ofNat 16 n).toNat = n := Nat.mod_eq_of_lt (by omega)
  have hnot := BitVec.toNat_not (x := BitVec.ofNat 16 n)
  rw [BitVec.not_def, BitVec.toNat_xor, BitVec.toNat_allOnes, hn, Nat.xor_comm,
    show 2 ^ 16 - 1 = 0xFFFF from rfl] at hnot
  omega

/-- The state behind a stored block's header. -/
def State.withStoredHeader (s : State) (final : Bool) : State :=
  beginBlock (BitVec.ofNat 1 final.toNat) 0#2 .stored (s.setBitpos (s.work.rd.bitpos + 3))

theorem decode_storedHeader (final : Bool) :
    decode .blk final.toNat = some (.blockStored (BitVec.ofNat 1 final.toNat)) := by
  cases final <;> rfl

section
variable {s : State} {final : Bool} {bs : List Byte} {rest : List Bool}

/-- The engine reads a stored block's header in one step (R210, R211). -/
theorem step_storedHeader (hrun : s.run = .busy .blk) (hhost : s.host = [])
    (h : s.nextBits (writeBits final.toNat 1 ++ writeBits 0 2)) : step s = .next (s.withStoredHeader final) := by
  have hlt : final.toNat < 2 ^ 1 := Bool.toNat_lt final
  have hbits : writeBits final.toNat 1 ++ writeBits 0 2 = writeBits final.toNat 3 :=
    (writeBits_of_lt (m := 3) hlt (by decide)).symm
  have hfield : s.nextField 3 final.toNat :=
    State.nextField_of_nextBits (hlt.trans (by decide)) (hbits ▸ h)
  rw [step_of_host_nil hhost, idleOrEngine_of_busy hrun]
  exact engineStep_of_fetch (p := .blk) (readBits_of_nextField hfield) (decode_storedHeader final)

/-- A stored block's body has no value to fetch (R94): the step is its meaning. -/
theorem step_of_stored (hrun : s.run = .busy .stored) (hhost : s.host = []) : step s = exec .stored s := by
  rw [step_of_host_nil hhost, idleOrEngine_of_busy hrun]
  exact engineStep_of_fetch rfl rfl

/-- A stored block's body that comes next, as its two fields and its data in IN (R213, R266). -/
theorem storedFields_of_nextBits {q : Nat} (hq : q = 8 * ((s.work.rd.bitpos + 7) / 8)) (hlen : bs.length ≤ 65535)
    (h : s.nextBits (storedBits s.work.rd.bitpos bs)) :
    (s.setBitpos q).nextField 16 bs.length ∧ (s.setBitpos (q + 16)).nextField 16 (bs.length ^^^ 0xFFFF) ∧
      q + 32 + 8 * bs.length ≤ s.inputBits ∧
      s.inBuf.bytes (s.work.rd.base + q / 8 + 4) bs.length = some bs := by
  have hpos : s.work.rd.bitpos + alignPad s.work.rd.bitpos = q := (add_alignPad _).trans hq.symm
  have hsum := add_xor_ones hlen
  rw [storedBits, ← unpackBits] at h
  have hfields := State.nextBits_left h
  have hlenBits := State.nextBits_right (State.nextBits_left hfields)
  have hnlenBits := State.nextBits_right hfields
  have hdataBits := State.nextBits_right h
  simp only [List.length_append, length_alignBits, length_writeBits, ← Nat.add_assoc, hpos]
    at hlenBits hnlenBits hdataBits
  refine ⟨State.nextField_of_nextBits (by omega) hlenBits, State.nextField_of_nextBits (by omega) hnlenBits, ?_, ?_⟩
  · have hroom := hdataBits.1
    rwa [length_unpackBits] at hroom
  · have hbyte : q + 16 + 16 = 8 * (q / 8 + 4) := by omega
    rw [Nat.add_assoc]
    exact State.bytes_of_nextBits (s := s.setBitpos (q + 16 + 16)) hbyte hdataBits

/-- With room for its data, a stored block's body that comes next appends the data and leaves the bit reader behind
them (R213). -/
theorem exec_stored_of_nextBits (hlen : bs.length ≤ 65535) (hroom : s.outLen.toNat + bs.length ≤ s.params.outCap.toNat)
    (h : s.nextBits (storedBits s.work.rd.bitpos bs ++ rest)) :
    ∃ t, exec .stored s = .next t ∧ s.appended t bs ∧ s.goesOn t ∧ t.nextBits rest ∧
      t.work.rd.bitpos = s.work.rd.bitpos + (storedBits s.work.rd.bitpos bs).length ∧ t.work.framing = s.work.framing ∧
      t.host = s.host ∧ t.params = s.params := by
  generalize hq : 8 * ((s.work.rd.bitpos + 7) / 8) = q
  obtain ⟨hlenField, hnlenField, hin, hbytes⟩ := storedFields_of_nextBits hq.symm hlen (State.nextBits_left h)
  obtain ⟨hcopies, -⟩ := storedBlockCopies s q _ _ hq.symm hlenField hnlenField
  obtain ⟨t, hexec, happ, hgoes, -, hframe⟩ := hcopies bs (add_xor_ones hlen) hin hbytes hroom
  have hend : s.work.rd.bitpos + (storedBits s.work.rd.bitpos bs).length = q + 32 + 8 * bs.length := by
    rw [length_storedBits, ← Nat.add_assoc, ← Nat.add_assoc, add_alignPad, hq]
  have hrest := State.nextBits_right h
  rw [hend] at hrest ⊢
  have hrd : t.work.rd = { s.work.rd with bitpos := q + 32 + 8 * bs.length } := congrArg (fun u => u.work.rd) hframe
  have hhost : t.host = s.host := by rw [hframe]
  have hparams : t.params = s.params := by rw [hframe]
  exact ⟨t, hexec, happ, hgoes, (State.nextBits_congr (congrArg State.inBuf hframe) hrd).mpr hrest,
    congrArg Reader.bitpos hrd, congrArg (fun u => u.work.framing) hframe, hhost, hparams⟩

theorem blockBits_of_stored {p : BlockPlan} (hp : p.btype = 0) (w : Nat) :
    blockBits w final bs p = (writeBits final.toNat 1 ++ writeBits 0 2) ++ storedBits (w + 3) bs := by
  rw [blockBits, if_pos hp, hp]

/-- A run whose first step has a next state goes on from there. -/
theorem run_succ_of_step {M : Host.Core} {n : Nat} {s t : M.State} (h : M.step s = .next t) :
    M.run (n + 1) s = M.run n t := by
  rw [Host.Core.run, h]

/-- The engine is at a block's header of a raw stream, `bits` come next, and the host only waits. -/
structure State.atBlock (s : State) (bits : List Bool) : Prop where
  run : s.run = .busy .blk
  host : s.host = []
  framing : s.work.framing = .raw
  next : s.nextBits bits

/-- A stored block is read in two steps: its header, then its body. -/
theorem run_storedBlock {p : BlockPlan} (n : Nat) (hs : s.atBlock (blockBits s.work.rd.bitpos final bs p ++ rest))
    (hp : p.btype = 0) (hlen : bs.length ≤ 65535) (hroom : s.outLen.toNat + bs.length ≤ s.params.outCap.toNat) :
    ∃ t : State, Host.Core.run Sys2Proof.core (n + 2) s = Host.Core.run Sys2Proof.core n t ∧ s.appended t bs ∧
      (final = true → t.run = .done) ∧ (final = false → t.atBlock rest) ∧ t.params = s.params ∧
      t.work.rd.bitpos = s.work.rd.bitpos + (blockBits s.work.rd.bitpos final bs p).length := by
  obtain ⟨hrun, hhost, hraw, hnext⟩ := hs
  rw [blockBits_of_stored hp] at hnext ⊢
  have hheader := step_storedHeader hrun hhost (State.nextBits_left (State.nextBits_left hnext))
  rw [List.append_assoc] at hnext
  obtain ⟨t, hexec, happ, ⟨hmore, hdone, -⟩, hrest, hpos, hframing, hhost', hparams⟩ :=
    exec_stored_of_nextBits (s := s.withStoredHeader final) hlen hroom (State.nextBits_right hnext)
  have hbody := (step_of_stored (s := s.withStoredHeader final) rfl hhost).trans hexec
  refine ⟨t, ?_, happ, fun hf => ?_, fun hf => ?_, hparams, ?_⟩
  · exact (run_succ_of_step (M := Sys2Proof.core) hheader).trans (run_succ_of_step (M := Sys2Proof.core) hbody)
  · exact (hdone (by rw [hf]; rfl) hraw).1
  · exact ⟨(hmore (by rw [hf]; rfl)).1, hhost'.trans hhost, hframing.trans hraw, hrest⟩
  · rw [hpos, List.length_append, ← Nat.add_assoc]
    rfl

end

/-! ### The stream -/

/-- Bytes appended after bytes appended. -/
theorem State.appended_trans {s t u : State} {xs ys : List Byte} (h : s.appended t xs) (h' : t.appended u ys) :
    s.appended u (xs ++ ys) := by
  obtain ⟨hlen, hnew, hold⟩ := h
  obtain ⟨hlen', hnew', hold'⟩ := h'
  rw [State.appended, List.length_append]
  refine ⟨by omega, fun i hi => ?_, fun a ha => ?_⟩
  · by_cases hx : i < xs.length
    · rw [hold' _ (by omega), hnew i hx, List.getElem?_append_left hx]
    · rw [List.getElem?_append_right (by omega), ← hnew' (i - xs.length) (by omega)]
      exact congrArg u.outBuf.read (by omega)
  · rw [hold' a (by omega), hold a (by omega)]

/-- Appended to an empty OUT, the bytes are all of OUT. -/
theorem State.bytes_of_appended {s t : State} {bs : List Byte} (hempty : s.outLen = 0#31) (h : s.appended t bs) :
    t.outLen.toNat = bs.length ∧ t.outBuf.bytes 0 bs.length = some bs := by
  obtain ⟨hlen, hnew, -⟩ := h
  have hzero : s.outLen.toNat = 0 := by rw [hempty]; rfl
  rw [hzero] at hlen hnew
  exact ⟨by omega, (Memory.bytes_eq_some_iff _ _ _ _).mpr ⟨rfl, hnew⟩⟩

/-- A stream of stored blocks that comes next appends its data in two steps a block, and the command is done. -/
theorem run_storedStream {plans : List BlockPlan} {data : List Byte} {rest : List Bool} {s : State} (hne : plans ≠ [])
    (hplans : ∀ p ∈ plans, p.btype = 0 ∧ p.len ≤ 65535) (hsum : (plans.map BlockPlan.len).sum = data.length)
    (hs : s.atBlock (streamBits s.work.rd.bitpos data plans ++ rest))
    (hroom : s.outLen.toNat + data.length ≤ s.params.outCap.toNat) :
    ∃ t : State, Host.Core.run Sys2Proof.core (2 * plans.length) s = .next t ∧ t.run = .done ∧ s.appended t data := by
  induction plans generalizing data s with
  | nil => exact absurd rfl hne
  | cons p more ih =>
    obtain ⟨⟨hp, hlen⟩, hmore⟩ := List.forall_mem_cons.mp hplans
    rw [List.map_cons, List.sum_cons] at hsum
    have hcount : (data.take p.len).length = p.len := List.length_take_of_le (by omega)
    rw [streamBits, List.append_assoc] at hs
    obtain ⟨t, hrun, happ, hdone, hnext, hparams, hpos⟩ :=
      run_storedBlock (2 * more.length) hs hp (hcount.trans_le hlen) (by omega)
    cases more with
    | nil =>
      have hall : data.take p.len = data := List.take_of_length_le hsum.ge
      exact ⟨t, hrun, hdone rfl, hall ▸ happ⟩
    | cons q qs =>
      have hlenOut := happ.1
      obtain ⟨u, hrun', hdone', happ'⟩ := ih (data := data.drop p.len) (s := t) (List.cons_ne_nil q qs) hmore
        (by rw [List.length_drop]; omega) (by rw [hpos]; exact hnext rfl)
        (by rw [hparams, hlenOut, hcount, List.length_drop]; omega)
      exact ⟨u, hrun.trans hrun', hdone', List.take_append_drop p.len data ▸ State.appended_trans happ happ'⟩

/-- IN holding the delivered bytes, the stream comes next at the reader's start (R139). -/
theorem nextBits_finalize {s : State} {bits : List Bool} (hin : s.inBuf = Memory.ofBytes 0 (finalize bits))
    (hrd : s.work.rd = { bitpos := 0, base := 0, size := (finalize bits).length }) :
    s.nextBits (bits ++ alignBits bits.length) := by
  rw [← unpackBits_finalize]
  refine ⟨?_, fun i _ => ?_⟩
  · rw [State.inputBits, hrd, length_unpackBits]
    exact (Nat.zero_add _).le
  · rw [streamBit_ofBytes hin (by rw [hrd]), hrd]
    exact congrArg _ (Nat.zero_add i)

end Sys2Proof.Machine
end

section
open Sys2Proof Sys2Proof.Machine

/-- Settles O24, by induction on the blocks: each is read back in two steps. -/
theorem storedStreamRoundTrip : Obligations.StoredStreamRoundTrip := by
  intro s data plans hne hplans hsum hin _ hrun hraw hrd _ hempty hroom hhost
  have hnext := nextBits_finalize hin hrd
  have hpos : s.work.rd.bitpos = 0 := by rw [hrd]
  have hzero : s.outLen.toNat = 0 := by rw [hempty]; rfl
  rw [← hpos] at hnext
  obtain ⟨t, hall, hdone, happ⟩ := run_storedStream hne hplans hsum ⟨hrun, hhost, hraw, hnext⟩ (by omega)
  exact ⟨t, hall, hdone, State.bytes_of_appended hempty happ⟩

end

section

/-! SUPPORT. Filtered and reconstructed lines byte by byte (45_filter.md R302 to R308). -/

namespace Sys2Proof.Machine

/-- The entry `d` before entry `i` of a line whose earlier bytes are `rev`, newest first. -/
def behind (rev line : List Byte) (i d : Nat) : Byte :=
  if d ≤ i then line.getD (i - d) 0#8 else rev.getD (d - 1 - i) 0#8

/-- With nothing before the line that is `backByte`. -/
theorem behind_nil (line : List Byte) (i d : Nat) : behind [] line i d = backByte line i d := rfl

section
variable {bw : Nat} (hbw : 1 ≤ bw)
include hbw

theorem behind_zero (rev line : List Byte) : behind rev line 0 bw = rev.getD (bw - 1) 0#8 :=
  if_neg (Nat.not_le.mpr hbw)

/-- A byte moved from the line to what is before it stays where it is. -/
theorem behind_cons (x : Byte) (rev line : List Byte) (i : Nat) :
    behind (x :: rev) line i bw = behind rev (x :: line) (i + 1) bw := by
  unfold behind
  rcases Nat.lt_trichotomy bw (i + 1) with hlt | heq | hgt
  · rw [if_pos (Nat.le_of_lt_succ hlt), if_pos hlt.le, Nat.sub_add_comm (Nat.le_of_lt_succ hlt), List.getD_cons_succ]
  · subst heq
    rw [if_neg (by omega), if_pos (Nat.le_refl _), Nat.add_sub_cancel, Nat.sub_self, Nat.sub_self]
    rfl
  · obtain ⟨k, rfl⟩ : ∃ k, bw = i + 2 + k := ⟨bw - (i + 2), by omega⟩
    rw [if_neg (by omega), if_neg (by omega), show i + 2 + k - 1 - i = k + 1 by omega,
      show i + 2 + k - 1 - (i + 1) = k by omega, List.getD_cons_succ]

end

/-- A prior line reads as its first byte and the rest, 0 beyond its end. -/
theorem getD_headD_cons_tail (prior : List Byte) (i : Nat) :
    (prior.headD 0#8 :: prior.tail).getD i 0#8 = prior.getD i 0#8 := by
  cases prior with
  | nil => cases i <;> rfl
  | cons => rfl

theorem behind_headD_cons_tail (rev prior : List Byte) (i d : Nat) :
    behind rev (prior.headD 0#8 :: prior.tail) i d = behind rev prior i d := by
  simp only [behind, getD_headD_cons_tail]

theorem filterFrom_getD {f bw i : Nat} {raw : List Byte} (hbw : 1 ≤ bw) (hi : i < raw.length)
    (rawRev priorRev prior : List Byte) :
    (filterFrom f bw rawRev priorRev raw prior).getD i 0#8 =
      raw.getD i 0#8 - predict f (behind rawRev raw i bw) (prior.getD i 0#8) (behind priorRev prior i bw) := by
  induction raw generalizing i rawRev priorRev prior with
  | nil => exact absurd hi (Nat.not_lt_zero i)
  | cons x rest ih =>
    rw [← getD_headD_cons_tail prior, ← behind_headD_cons_tail priorRev prior]
    cases i with
    | zero =>
      rw [behind_zero hbw, behind_zero hbw]
      rfl
    | succ i =>
      rw [← behind_cons hbw, ← behind_cons hbw]
      exact ih (Nat.lt_of_succ_lt_succ hi) _ _ _

theorem unfilterFrom_getD {f bw i : Nat} {out : List Byte} (hbw : 1 ≤ bw) (hi : i < out.length)
    (rawRev priorRev prior : List Byte) :
    (unfilterFrom f bw rawRev priorRev out prior).getD i 0#8 =
      out.getD i 0#8 + predict f (behind rawRev (unfilterFrom f bw rawRev priorRev out prior) i bw) (prior.getD i 0#8)
        (behind priorRev prior i bw) := by
  induction out generalizing i rawRev priorRev prior with
  | nil => exact absurd hi (Nat.not_lt_zero i)
  | cons x rest ih =>
    rw [← getD_headD_cons_tail prior, ← behind_headD_cons_tail priorRev prior]
    cases i with
    | zero =>
      rw [behind_zero hbw, behind_zero hbw]
      rfl
    | succ i =>
      rw [← behind_cons hbw]
      simp only [unfilterFrom]
      rw [← behind_cons hbw]
      exact ih (Nat.lt_of_succ_lt_succ hi) _ _ _

/-- A filtered byte is the raw byte minus what its neighbours predict. -/
theorem filterLine_getD (f : Nat) {bw i : Nat} {raw : List Byte} (hbw : 1 ≤ bw) (hi : i < raw.length)
    (prior : List Byte) :
    (filterLine f bw raw prior).getD i 0#8 =
      raw.getD i 0#8 - predict f (backByte raw i bw) (prior.getD i 0#8) (backByte prior i bw) :=
  filterFrom_getD hbw hi [] [] prior

/-- A reconstructed byte is the filtered byte plus what its reconstructed neighbours predict. -/
theorem unfilterLine_getD (f : Nat) {bw i : Nat} {out : List Byte} (hbw : 1 ≤ bw) (hi : i < out.length)
    (prior : List Byte) :
    (unfilterLine f bw out prior).getD i 0#8 =
      out.getD i 0#8 + predict f (backByte (unfilterLine f bw out prior) i bw) (prior.getD i 0#8)
        (backByte prior i bw) :=
  unfilterFrom_getD hbw hi [] [] prior

/-- The first byte reconstructed is the first raw byte, so both loops go on with the same bytes behind them. -/
theorem unfilterFrom_filterFrom (f bw : Nat) (rawRev priorRev raw prior : List Byte) :
    unfilterFrom f bw rawRev priorRev (filterFrom f bw rawRev priorRev raw prior) prior = raw := by
  induction raw generalizing rawRev priorRev prior with
  | nil => rfl
  | cons x rest ih => simp only [filterFrom, unfilterFrom, BitVec.sub_add_cancel, ih]

end Sys2Proof.Machine
end

section
open Sys2Proof Sys2Proof.Machine

/-- Settles O40: the byte equations of filtering and unfiltering, with the predictor of each of the five types. -/
theorem scanlinePredictors : Obligations.ScanlinePredictors := by
  intro bw i line prior hbw hi
  have hfilter (f : Nat) := filterLine_getD f hbw hi prior
  have hunfilter (f : Nat) := unfilterLine_getD f hbw hi prior
  exact ⟨fun f => ⟨filterLine_length .., unfilterLine_length ..⟩,
    (hfilter 0).trans (BitVec.sub_zero _), hfilter 1, hfilter 2, hfilter 3, hfilter 4,
    (hunfilter 0).trans (BitVec.add_zero _), hunfilter 1, hunfilter 2, hunfilter 3, hunfilter 4⟩

/-- Settles O41. -/
theorem filterIsReversible : Obligations.FilterIsReversible := fun f bw raw prior =>
  unfilterFrom_filterFrom f bw [] [] raw prior

/-- Settles O42: the predictor's two tests, and the order of the three distances in each of its three outcomes. -/
theorem paethPicksTheNearest : Obligations.PaethPicksTheNearest := by
  intro a b c p d
  have hpaeth : paeth a b c = if d a ≤ d b ∧ d a ≤ d c then a else if d b ≤ d c then b else c := rfl
  rw [hpaeth]
  clear_value d
  split_ifs with ha hb
  · exact ⟨.inl rfl, le_rfl, ha.1, ha.2, fun _ _ => rfl, fun _ _ => by omega⟩
  · exact ⟨.inr (.inl rfl), by omega, le_rfl, hb, fun _ _ => by omega, fun _ _ => rfl⟩
  · exact ⟨.inr (.inr rfl), by omega, by omega, le_rfl, fun _ _ => by omega, fun _ _ => by omega⟩

end

section

/-! SUPPORT. The seven passes of an interlaced image (45_filter.md R320, R324). -/

namespace Sys2Proof.Machine

/-- The positions from `start` on in steps of `2 * step`, and those halfway between them. -/
theorem subSize_add_subSize (size start : Nat) {step : Nat} (h : step ∈ [1, 2, 4]) :
    subSize size start (2 * step) + subSize size (start + step) (2 * step) = subSize size start step := by
  simp only [List.mem_cons, List.not_mem_nil, or_false] at h
  unfold subSize
  rcases h with rfl | rfl | rfl
  · omega
  · omega
  · omega

theorem subSize_zero_one (size : Nat) : subSize size 0 1 = size := by
  simp [subSize]

end Sys2Proof.Machine
end

section
open Sys2Proof Sys2Proof.Machine

/-- Settles O44: a grid of columns or rows is the next coarser one and the positions halfway between, so each pass fills
up the grid of the passes before it. -/
theorem passesPartitionTheImage : Obligations.PassesPartitionTheImage := by
  intro w h _ _
  have fours (n : Nat) : subSize n 0 4 = subSize n 0 8 + subSize n 4 8 :=
    (subSize_add_subSize n 0 (step := 4) (by decide)).symm
  have twos (n : Nat) : subSize n 0 2 = subSize n 0 4 + subSize n 2 4 :=
    (subSize_add_subSize n 0 (step := 2) (by decide)).symm
  have ones (n : Nat) : subSize n 0 1 = subSize n 0 2 + subSize n 1 2 :=
    (subSize_add_subSize n 0 (step := 1) (by decide)).symm
  calc ([1, 2, 3, 4, 5, 6, 7].map fun p => (passDims true w h p).1 * (passDims true w h p).2).sum
      = subSize w 0 8 * subSize h 0 8 + (subSize w 4 8 * subSize h 0 8 + (subSize w 0 4 * subSize h 4 8 +
        (subSize w 2 4 * subSize h 0 4 + (subSize w 0 2 * subSize h 2 4 +
          (subSize w 1 2 * subSize h 0 2 + (subSize w 0 1 * subSize h 1 2 + 0)))))) := rfl
    _ = subSize w 0 1 * subSize h 0 1 := by simp only [ones, twos, fours]; ring
    _ = w * h := by rw [subSize_zero_one, subSize_zero_one]

end

section

/-! SUPPORT. The configuration and length checks of FILTER and UNFILTER (45_filter.md R322, R323). -/

namespace Sys2Proof.Machine

/-- The legal pairs of COLORTYPE and BITDEPTH (R322). -/
def State.modeLegal (s : State) : Prop :=
  s.colorType ∈ [0, 3] ∧ s.bitDepth ∈ [1, 2, 4] ∨ s.colorType ∈ [0, 2, 3, 4, 6] ∧ s.bitDepth = 8 ∨
    s.colorType ∈ [0, 2, 4, 6] ∧ s.bitDepth = 16

section
variable {s : State} {isFilter : Bool}

/-- The model's list of legal images says the same of the mode. -/
theorem State.imageLegal.modeLegal (h : s.imageLegal) : s.modeLegal := by
  have hmode := h.1
  simp only [List.mem_cons, Prod.mk.injEq, List.not_mem_nil, or_false] at hmode
  unfold State.modeLegal
  rcases hmode with h | h | h | h | h | h | h | h | h | h | h | h | h | h | h
  all_goals
    rw [h.1, h.2]
    decide

theorem State.imageLegal.dims_ne_zero (h : s.imageLegal) : ¬ (s.width = 0#31 ∨ s.height = 0#31) := by
  obtain ⟨-, hw, hh⟩ := h
  rintro (h0 | h0)
  · rw [h0] at hw
    exact absurd hw (by decide)
  · rw [h0] at hh
    exact absurd hh (by decide)

theorem filterConfigError_of_colorType (h : s.colorType ∉ [0, 2, 3, 4, 6]) :
    filterConfigError isFilter s = some .unsupportedColorType := by
  simp only [List.mem_cons, List.not_mem_nil, or_false, not_or] at h
  exact if_pos h

theorem filterConfigError_of_bitDepth (hc : s.colorType ∈ [0, 2, 3, 4, 6]) (hd : s.bitDepth ∉ [1, 2, 4, 8, 16]) :
    filterConfigError isFilter s = some .unsupportedBitDepth := by
  simp only [List.mem_cons, List.not_mem_nil, or_false, not_or] at hc hd
  rw [filterConfigError, if_neg (by omega), if_pos hd]

theorem filterConfigError_of_mode
    (h : s.colorType = 3 ∧ s.bitDepth = 16 ∨ s.colorType ∈ [2, 4, 6] ∧ s.bitDepth ∈ [1, 2, 4]) :
    filterConfigError isFilter s = some .invalidColorMode := by
  simp only [List.mem_cons, List.not_mem_nil, or_false] at h
  rw [filterConfigError, if_neg (by omega), if_neg (by omega)]
  rcases h with h | h
  · rw [if_pos h]
  · rw [if_neg (by omega), if_pos (by omega)]

/-- Under a legal mode the dimensions come next, then the strategy. -/
theorem filterConfigError_of_modeLegal (h : s.modeLegal) :
    filterConfigError isFilter s =
      if s.width = 0#31 ∨ s.height = 0#31 then some .badConfig
      else if isFilter ∧ 5 ≤ s.strategy then some .badConfig
      else none := by
  simp only [State.modeLegal, List.mem_cons, List.not_mem_nil, or_false] at h
  rw [filterConfigError, if_neg (by omega), if_neg (by omega), if_neg (by omega), if_neg (by omega)]

theorem filterConfigError_of_imageLegal (h : s.imageLegal) :
    filterConfigError isFilter s = if isFilter ∧ 5 ≤ s.strategy then some .badConfig else none := by
  rw [filterConfigError_of_modeLegal h.modeLegal, if_neg h.dims_ne_zero]

theorem lengthsOk_filter_eq_false
    (h : s.inLen.toNat ≠ s.rawLen ∨ s.effectiveStrategy = 4 ∧ s.auxLen.toNat ≠ s.lineCount) :
    lengthsOk true s = false := by
  simp only [lengthsOk, if_true, Bool.and_eq_false_iff, Bool.or_eq_false_iff, decide_eq_false_iff_not]
  exact h.imp_right fun h => ⟨not_not.mpr h.1, h.2⟩

theorem lengthsOk_unfilter_eq_false (h : s.inLen.toNat ≠ s.filtLen) : lengthsOk false s = false :=
  decide_eq_false h

theorem filterCommand_of_configError {k : ErrKind} (h : filterConfigError true s = some k) :
    filterCommand s = .raise k s := by
  rw [filterCommand, h]

theorem filterCommand_of_lengths (h : filterConfigError true s = none) (hlen : lengthsOk true s = false) :
    filterCommand s = .raise .lengthMismatch s := by
  rw [filterCommand, h, hlen]
  rfl

theorem unfilterCommand_of_configError {k : ErrKind} (h : filterConfigError false s = some k) :
    unfilterCommand s = .raise k s := by
  rw [unfilterCommand, h]

theorem unfilterCommand_of_lengths (h : filterConfigError false s = none) (hlen : lengthsOk false s = false) :
    unfilterCommand s = .raise .lengthMismatch s := by
  rw [unfilterCommand, h, hlen]
  rfl

/-- A command whose rule raises on the clean state, which it has not changed, ends with that error. -/
theorem onCommand_fails {rule : State → Res Unit} {k : ErrKind} (hs : s.canLaunch)
    (h : rule (startCommand s) = .raise k (startCommand s)) :
    ∃ t, onCommand rule s = .next t ∧ s.commandFailed k t :=
  ⟨raiseError k (startCommand s), (onCommand_of_canLaunch hs).trans (congrArg Res.finish h), rfl⟩

/-- Both commands check the configuration first, and end with the error it gives. -/
theorem exec_image_of_configError {i : Instr} {k : ErrKind} (hi : i = .filter ∨ i = .unfilter) (hs : s.canLaunch)
    (hk : ∀ isFilter, filterConfigError isFilter s = some k) : ∃ t, exec i s = .next t ∧ s.commandFailed k t := by
  rcases hi with rfl | rfl
  · exact onCommand_fails hs (filterCommand_of_configError (hk true))
  · exact onCommand_fails hs (unfilterCommand_of_configError (hk false))

end

end Sys2Proof.Machine
end

section
open Sys2Proof Sys2Proof.Machine

/-- Settles O52: the check's first error in its order, then the lengths. -/
theorem imageConfigurationIsChecked : Obligations.ImageConfigurationIsChecked := by
  intro i s hi hs
  refine ⟨fun hc => exec_image_of_configError hi hs fun _ => filterConfigError_of_colorType hc,
    fun hc hd => exec_image_of_configError hi hs fun _ => filterConfigError_of_bitDepth hc hd,
    fun hmode => exec_image_of_configError hi hs fun _ => filterConfigError_of_mode hmode,
    fun hmode hdims => exec_image_of_configError hi hs fun _ => ?_,
    fun himg hi hstrat => ?_, fun himg hi hstrat hlen => ?_, fun himg hi hlen => ?_⟩
  · exact (filterConfigError_of_modeLegal hmode).trans (if_pos hdims)
  · subst hi
    have hconfig : filterConfigError true s = some .badConfig :=
      (filterConfigError_of_imageLegal himg).trans (if_pos ⟨rfl, hstrat⟩)
    exact onCommand_fails hs (filterCommand_of_configError hconfig)
  · subst hi
    have hconfig : filterConfigError true s = none :=
      (filterConfigError_of_imageLegal himg).trans (if_neg (by omega))
    exact onCommand_fails hs (filterCommand_of_lengths hconfig (lengthsOk_filter_eq_false hlen))
  · subst hi
    have hconfig : filterConfigError false s = none :=
      (filterConfigError_of_imageLegal himg).trans (if_neg fun h => Bool.false_ne_true h.1)
    exact onCommand_fails hs (unfilterCommand_of_lengths hconfig (lengthsOk_unfilter_eq_false hlen))

end

section

/-! SUPPORT. The choice of a filter type (45_filter.md R311 to R317) and one scanline of FILTER (R321). -/

namespace Sys2Proof.Machine

/-- The five candidate lines, in the order of their types. -/
def trialOf (candidate : Nat → List Byte) : List (List Byte) := (List.range 5).map candidate

section
variable {candidate : Nat → List Byte}

theorem mem_trialOf {l : List Byte} : l ∈ trialOf candidate ↔ ∃ g ≤ 4, candidate g = l := by
  simp only [trialOf, List.mem_map, List.mem_range, Nat.lt_succ_iff]

theorem getElem?_map_trialOf (score : List Byte → Nat) {g : Nat} (hg : g ≤ 4) :
    ((trialOf candidate).map score)[g]? = some (score (candidate g)) := by
  simp [trialOf, Nat.lt_succ_of_le hg]

theorem trialOf_getD {g : Nat} (hg : g ≤ 4) : (trialOf candidate).getD g [] = candidate g := by
  simp [trialOf, Nat.lt_succ_of_le hg]

theorem le_four_of_getElem?_map_trialOf {score : List Byte → Nat} {g m : Nat}
    (h : ((trialOf candidate).map score)[g]? = some m) : g ≤ 4 := by
  have hlt := (List.getElem?_eq_some_iff.mp h).1
  simp only [trialOf, List.length_map, List.length_range] at hlt
  exact Nat.le_of_lt_succ hlt

theorem map_trialOf_ne_nil (score : List Byte → Nat) : (trialOf candidate).map score ≠ [] := by
  simp [trialOf]

/-- `least` among the candidates' scores is the smallest type with the least score. -/
theorem leastScore_least (score : List Byte → Nat) :
    leastScore (fun g => score (candidate g)) (least ((trialOf candidate).map score)) := by
  obtain ⟨m, hm, hall⟩ := least_spec (map_trialOf_ne_nil (candidate := candidate) score)
  have hle := le_four_of_getElem?_map_trialOf hm
  obtain rfl := Option.some.inj ((getElem?_map_trialOf score hle).symm.trans hm)
  exact ⟨hle, fun g hg => hall g _ (getElem?_map_trialOf score hg)⟩

/-- The greatest weight is the least entropy over the reals (R315). -/
theorem leastEntropy_greatest : leastEntropy candidate (greatest ((trialOf candidate).map histogramWeight)) := by
  obtain ⟨m, hm, hall⟩ := greatest_spec (map_trialOf_ne_nil (candidate := candidate) histogramWeight)
  have hle := le_four_of_getElem?_map_trialOf hm
  obtain rfl := Option.some.inj ((getElem?_map_trialOf histogramWeight hle).symm.trans hm)
  exact ⟨hle, fun g hg => hall g _ (getElem?_map_trialOf histogramWeight hg)⟩

theorem arithmeticAgrees_trialOf_iff : arithmeticAgrees (trialOf candidate) = true ↔
    ∀ g h, g ≤ 4 → h ≤ 4 → clearlyLower (candidate g) (candidate h) = true →
      Config.freeEntropy (histogram (candidate g)) < Config.freeEntropy (histogram (candidate h)) := by
  simp only [arithmeticAgrees_iff, mem_trialOf]
  constructor
  · exact fun hall g h hg hh => hall _ ⟨g, hg, rfl⟩ _ ⟨h, hh, rfl⟩
  · rintro hall _ ⟨g, hg, rfl⟩ _ ⟨h, hh, rfl⟩
    exact hall g h hg hh

/-- The weight is the histogram's. -/
theorem histogramWeight_congr {a b : List Byte} (h : histogram a = histogram b) :
    histogramWeight a = histogramWeight b := by
  rw [histogramWeight, histogramWeight, h]

/-- An arithmetic that agrees with the exact entropies on the candidates gives the least entropy it evaluates. -/
theorem leastEvaluated_of_agrees {f : Nat} (hagrees : arithmeticAgrees (trialOf candidate) = true)
    (hf : leastScore (fun g => Config.freeEntropy (histogram (candidate g))) f) : leastEvaluated candidate f := by
  have hlower := arithmeticAgrees_trialOf_iff.mp hagrees
  obtain ⟨hle, hleast⟩ := hf
  refine ⟨hle, fun _ => ⟨hle, hleast⟩, fun g h hg hh hclear hnot => ?_, fun g hg => ⟨?_, fun hlt heq => ?_⟩⟩
  · exact absurd (hlower g h hg hh hclear) (Nat.not_lt.mpr hnot)
  · exact Bool.eq_false_iff.mpr fun hclear => absurd (hlower g f hg hle hclear) (Nat.not_lt.mpr (hleast g hg).1)
  · exact absurd (congrArg Config.freeEntropy heq) ((hleast g hg).2 hlt).ne'

/-- One that does not agree is not used: the exact entropies decide. -/
theorem leastEvaluated_of_not_agrees {f : Nat} (hagrees : arithmeticAgrees (trialOf candidate) ≠ true)
    (hf : leastEntropy candidate f) : leastEvaluated candidate f := by
  obtain ⟨hle, hleast⟩ := hf
  refine ⟨hle, fun hall => absurd (arithmeticAgrees_trialOf_iff.mpr hall) hagrees,
    fun _ _ _ _ _ _ => ⟨hle, hleast⟩, fun g hg => ⟨?_, fun hlt heq => ?_⟩⟩
  · exact Bool.eq_false_iff.mpr fun hclear =>
      absurd (histogramWeight_lt_of_clearlyLower hclear) (Nat.not_lt.mpr (hleast g hg).1)
  · exact absurd (histogramWeight_congr heq) ((hleast g hg).2 hlt).ne

theorem leastEvaluated_entropyPick_free : leastEvaluated candidate (entropyPick .free (trialOf candidate)) := by
  unfold entropyPick
  dsimp only
  split_ifs with hagrees
  · exact leastEvaluated_of_agrees hagrees (leastScore_least fun l => Config.freeEntropy (histogram l))
  · exact leastEvaluated_of_not_agrees hagrees leastEntropy_greatest

/-- Under either arithmetic the entropy strategy chooses one of the five types. -/
theorem entropyPick_le_four (c : Choice) : entropyPick c (trialOf candidate) ≤ 4 := by
  cases c
  · exact leastEntropy_greatest.1
  · exact leastEvaluated_entropyPick_free.1

section
variable {s : State}

theorem predefinedFilter_of_auxLegal (h : s.auxLegal s.work.line.line) :
    ∃ f ≤ 4, predefinedFilter s = .ok f s ∧ s.auxBuf.read s.work.line.line = some (BitVec.ofNat 8 f) := by
  obtain ⟨b, hread, hb⟩ := h
  refine ⟨b.toNat, hb, ?_, by rw [hread, BitVec.ofNat_toNat, BitVec.setWidth_eq]⟩
  rw [predefinedFilter, hread]
  exact if_neg (Nat.not_lt.mpr hb)

/-- The choice among the five candidates: what each effective strategy asks. -/
theorem chooseFilter_picks (htrial : s.work.line.trial = trialOf candidate) (hstrat : s.effectiveStrategy ≤ 4)
    (haux : s.effectiveStrategy = 4 → s.auxLegal s.work.line.line) :
    ∃ f, chooseFilter s = .ok f s ∧ s.picks s.work.line.line candidate f := by
  unfold chooseFilter
  dsimp only
  rw [htrial]
  unfold State.picks
  generalize s.effectiveStrategy = k at *
  interval_cases k
  · exact ⟨0, rfl, Nat.zero_le _, fun _ => rfl, nofun, nofun, nofun, nofun, nofun⟩
  · have hpick := leastScore_least (candidate := candidate) sumScore
    exact ⟨_, rfl, hpick.1, nofun, fun _ => hpick, nofun, nofun, nofun, nofun⟩
  · refine ⟨_, rfl, entropyPick_le_four _, nofun, nofun, fun _ hc => ?_, fun _ hc => ?_, nofun, nofun⟩
    · exact hc ▸ leastEntropy_greatest
    · exact hc ▸ leastEvaluated_entropyPick_free
  · have hpick := leastScore_least (candidate := candidate) Config.bruteSize
    exact ⟨_, rfl, hpick.1, nofun, nofun, nofun, nofun, fun _ => hpick, nofun⟩
  · obtain ⟨f, hf, hok, hread⟩ := predefinedFilter_of_auxLegal (haux rfl)
    exact ⟨f, hok, hf, nofun, nofun, nofun, nofun, nofun, fun _ => hread⟩

/-- The state in which the filter type is chosen: the scanline is CUR, and the candidates are in TRY. -/
def State.withTrial (s : State) (cur : List Byte) (candidate : Nat → List Byte) : State :=
  s.setLine { s.work.line with
    cur := cur, trial := trialOf candidate, pos := s.work.line.pos + s.work.regs.linebytes.toNat }

/-- One scanline of FILTER whose bytes are in IN and whose type is chosen: the output, and CUR becomes PRIOR. -/
theorem filterRow_of_choice {cur : List Byte} {f : Nat}
    (hin : s.work.line.pos + s.work.regs.linebytes.toNat ≤ s.inLen.toNat)
    (hcur : s.inBuf.bytes s.work.line.pos s.work.regs.linebytes.toNat = some cur)
    (hcand : candidate = fun f => filterLine f s.work.regs.bytewidth.toNat cur s.work.line.prior) (hf : f ≤ 4)
    (hchoice : chooseFilter (s.withTrial cur candidate) = .ok f (s.withTrial cur candidate)) :
    filterRow s =
      (appendAll (BitVec.ofNat 8 f :: candidate f)
        ((s.withTrial cur candidate).setRegs { s.work.regs with f := BitVec.ofNat 8 f })).bind fun _ u =>
          .ok () (u.setLine { u.work.line with prior := cur, line := s.work.line.line + 1 }) := by
  rw [filterRow, readInBytes_of_bytes hin hcur, Res.bind_ok, ← trialOf_getD (candidate := candidate) hf]
  subst hcand
  exact congrArg (Res.bind · _) hchoice

end
end

end Sys2Proof.Machine
end

section
open Sys2Proof Sys2Proof.Machine

/-- Settles O45: the choice among the candidates, then the append of the chosen one behind its filter byte. -/
theorem filterRowChoosesAndFilters : Obligations.FilterRowChoosesAndFilters := by
  intro s cur hin hcur hroom hstrat haux candidate
  obtain ⟨f, hchoice, hpicks⟩ := chooseFilter_picks (s := s.withTrial cur candidate) rfl hstrat haux
  have hrow := filterRow_of_choice hin hcur rfl hpicks.1 hchoice
  have hcount : (BitVec.ofNat 8 f :: candidate f).length = s.work.regs.linebytes.toNat + 1 := by
    rw [List.length_cons, filterLine_length, Memory.bytes_length hcur]
  obtain ⟨u, hu, hframe, happ⟩ := appendAll_of_room (bs := BitVec.ofNat 8 f :: candidate f)
    (s := (s.withTrial cur candidate).setRegs { s.work.regs with f := BitVec.ofNat 8 f }) (by rw [hcount]; exact hroom)
  rw [hu, Res.bind_ok] at hrow
  refine ⟨f, _, hrow, hpicks, happ, ?_⟩
  rw [hframe]
  rfl

end

section

/-! SUPPORT. One scanline of UNFILTER (45_filter.md R308, R321): what comes after it, and what it leaves unchanged. -/

namespace Sys2Proof.Machine

section
variable {s : State}

/-! ### The passes -/

/-- No pass is higher than the image. -/
theorem State.dims_snd_le (s : State) (p : Nat) : (s.dims p).2 ≤ s.height.toNat := by
  have hstep : 1 ≤ passDY p := by
    unfold passDY
    rcases Nat.lt_or_ge p 8 with hp | hp
    · interval_cases p <;> decide
    · rw [List.getD_eq_default _ _ (by simpa using hp)]
  unfold State.dims passDims
  split_ifs
  · exact subSize_le hstep
  · exact Nat.le_refl _
  · exact Nat.zero_le _

/-- A legal image has at least one channel of at least one bit (R300, R322). -/
theorem State.one_le_bitsPerPixel {isFilter : Bool} (h : filterConfigError isFilter s = none) :
    1 ≤ s.bitsPerPixel := by
  unfold filterConfigError at h
  split_ifs at h with hcolor hdepth
  have hchannels : 1 ≤ channels s.colorType := by
    unfold channels
    split_ifs
    all_goals omega
  have hbits : 1 ≤ s.bitDepth := by omega
  exact Nat.mul_le_mul hbits hchannels

/-- A scanline of a pass with pixels has at least one byte. -/
theorem State.one_le_passLine {isFilter : Bool} {p : Nat} (h : filterConfigError isFilter s = none)
    (hp : p ∈ s.usedPasses) : 1 ≤ s.passLine p := by
  simp only [State.usedPasses, List.mem_filter, State.passUsed, Bool.and_eq_true, decide_eq_true_eq] at hp
  obtain ⟨-, hw, -⟩ := hp
  have hone : lineBytes 1 1 ≤ s.passLine p := lineBytes_mono (State.one_le_bitsPerPixel h) (Nat.pos_of_ne_zero hw)
  exact hone

/-- The passes with pixels behind pass `p`. -/
def State.passesBehind (s : State) (p : Nat) : List Nat := s.usedPasses.filter (fun q => p < q)

theorem State.head?_passesBehind (s : State) (p : Nat) :
    (s.passesBehind p).head? = (List.range' 1 7).find? fun q => p < q && s.passUsed q := by
  rw [State.passesBehind, State.usedPasses, List.filter_filter, List.head?_filter]
  rfl

theorem State.passesBehind_eq_nil {p : Nat} (h : ∀ q, p < q → q ≤ 7 → s.passUsed q = false) :
    s.passesBehind p = [] := by
  rw [← List.head?_eq_none_iff, State.head?_passesBehind, List.find?_range'_eq_none]
  intro q _ hq
  by_cases hpq : p < q
  · simp [h q hpq (by omega)]
  · simp [hpq]

/-- The next pass with pixels is the first of those behind. -/
theorem State.passesBehind_eq_cons {p q : Nat} (hpq : p < q) (hq : q ≤ 7) (hused : s.passUsed q = true)
    (hfirst : ∀ q', p < q' → q' < q → s.passUsed q' = false) : ∃ rest, s.passesBehind p = q :: rest := by
  rw [← List.head?_eq_some_iff, State.head?_passesBehind, List.find?_range'_eq_some]
  refine ⟨by simp [hpq, hused], by rw [List.mem_range'_1]; omega, fun q' _ hq' => ?_⟩
  by_cases hpq' : p < q'
  · simp [hfirst q' hpq' hq']
  · simp [hpq']

/-! ### What comes after a scanline -/

theorem nextLine_of_row (h : s.work.regs.row.toNat + 1 < (s.dims s.work.regs.pass.toNat).2) :
    nextLine s = (s.setRegs { s.work.regs with row := s.work.regs.row + 1#31 }).setRun (.busy .scanline) := if_pos h

/-- The last row of the last pass with pixels ends the command. -/
theorem nextLine_of_end (h : (s.dims s.work.regs.pass.toNat).2 ≤ s.work.regs.row.toNat + 1)
    (hend : s.passesBehind s.work.regs.pass.toNat = []) : nextLine s = complete s := by
  change s.usedPasses.filter _ = _ at hend
  rw [nextLine, if_neg (Nat.not_lt.mpr h), hend]

/-- The last row of an earlier pass is followed by the first row of the next one. -/
theorem nextLine_of_pass {q : Nat} {rest : List Nat}
    (h : (s.dims s.work.regs.pass.toNat).2 ≤ s.work.regs.row.toNat + 1)
    (hnext : s.passesBehind s.work.regs.pass.toNat = q :: rest) :
    nextLine s = (beginPass q s).setRun (.busy .scanline) := by
  change s.usedPasses.filter _ = _ at hnext
  rw [nextLine, if_neg (Nat.not_lt.mpr h), hnext]

/-- A row before the last of its pass has a number that ROW can hold. -/
theorem row_succ_toNat (h : s.work.regs.row.toNat + 1 < (s.dims s.work.regs.pass.toNat).2) :
    (s.work.regs.row + 1#31).toNat = s.work.regs.row.toNat + 1 := by
  have hheight := s.dims_snd_le s.work.regs.pass.toNat
  have hlt := s.height.isLt
  have hfits : s.work.regs.row.toNat + 1 < 2 ^ 31 := by omega
  exact BitVec.toNat_add_of_lt hfits

/-- BYTEWIDTH is the same for every pass, so that beginning one leaves it unchanged. -/
theorem beginPass_of_bytewidth (q : Nat) (h : s.work.regs.bytewidth.toNat = byteWidth s.bitsPerPixel) :
    beginPass q s =
      (s.setRegs { s.work.regs with
        pass := BitVec.ofNat 3 q, row := 0#31, linebytes := BitVec.ofNat 34 (s.passLine q) }).setLine
        { s.work.line with prior := List.replicate (s.passLine q) 0#8 } := by
  rw [beginPass, ← h, BitVec.ofNat_toNat, BitVec.setWidth_eq]

/-- Going on changes STATE and the error registers, the loops' registers and PRIOR, and nothing else. -/
theorem nextLine_frame (h : s.work.regs.bytewidth.toNat = byteWidth s.bitsPerPixel) : nextLine s = { s with
    run := (nextLine s).run, errKind := (nextLine s).errKind, errCode := (nextLine s).errCode
    work := { s.work with
      regs := { s.work.regs with
        row := (nextLine s).work.regs.row, pass := (nextLine s).work.regs.pass
        linebytes := (nextLine s).work.regs.linebytes }
      line := { s.work.line with prior := (nextLine s).work.line.prior } } } := by
  unfold nextLine
  dsimp only
  split
  · rfl
  · split
    · rfl
    · rw [beginPass_of_bytewidth _ h]
      rfl

/-! ### The scanline -/

/-- The state after a scanline's bytes `cur`, before it is decided what comes next. -/
def State.withScanline (s : State) (cur : List Byte) (m : Memory) (n : BitVec 31) : State :=
  (s.setOut m n).setLine { s.work.line with
    prior := cur, cur := cur, pos := s.work.line.pos + s.work.regs.linebytes.toNat }

section
variable {out : List Byte} (f : Nat) (hin : s.work.line.pos + s.work.regs.linebytes.toNat ≤ s.inLen.toNat)
  (hout : s.inBuf.bytes s.work.line.pos s.work.regs.linebytes.toNat = some out)
include hin hout

/-- A scanline that fits OUT is appended and becomes PRIOR, and the loop goes on. -/
theorem unfilterRow_of_room (hroom : s.outLen.toNat + s.work.regs.linebytes.toNat ≤ s.params.outCap.toNat) :
    let cur := unfilterLine f s.work.regs.bytewidth.toNat out s.work.line.prior
    ∃ m n, unfilterRow f s = .ok () (nextLine (s.withScanline cur m n)) ∧ s.appended (s.withScanline cur m n) cur := by
  intro cur
  have hcount : cur.length = s.work.regs.linebytes.toNat :=
    (unfilterLine_length ..).trans (Memory.bytes_length hout)
  obtain ⟨u, hu, hframe, happ⟩ := appendAll_of_room (bs := cur) (s := s.setLine { s.work.line with
    cur := cur, pos := s.work.line.pos + s.work.regs.linebytes.toNat }) (by rw [hcount]; exact hroom)
  refine ⟨u.outBuf, u.outLen, ?_, happ⟩
  rw [unfilterRow, readInBytes_of_bytes hin hout, Res.bind_ok]
  dsimp only
  rw [hu, Res.bind_ok, hframe]
  rfl

/-- A scanline that does not fit OUT. -/
theorem unfilterRow_of_full (hpos : 1 ≤ s.work.regs.linebytes.toNat)
    (hfull : s.params.outCap.toNat < s.outLen.toNat + s.work.regs.linebytes.toNat) :
    ∃ t, (unfilterRow f s).finish = .next t ∧ s.raised .outOfCapacity t := by
  have hcount := (unfilterLine_length f s.work.regs.bytewidth.toNat out s.work.line.prior).trans
    (Memory.bytes_length hout)
  obtain ⟨u, hu, hframe⟩ := appendAll_of_full
    (bs := unfilterLine f s.work.regs.bytewidth.toNat out s.work.line.prior) (s := s.setLine { s.work.line with
      cur := unfilterLine f s.work.regs.bytewidth.toNat out s.work.line.prior
      pos := s.work.line.pos + s.work.regs.linebytes.toNat }) (by rw [hcount]; exact hfull) (by rw [hcount]; exact hpos)
  refine finish_raises (u := u) ?_ (by rw [hframe]; rfl)
  rw [unfilterRow, readInBytes_of_bytes hin hout, Res.bind_ok]
  dsimp only
  rw [hu, Res.bind_raise]

end

/-- Each row of R302 to R307 reconstructs a scanline by its filter type. -/
theorem exec_filterRowsOf {r : Instr × Nat} (h : r ∈ filterRowsOf) (s : State) :
    exec r.1 s = (unfilterRow r.2 s).finish := by
  simp only [filterRowsOf, List.mem_cons, List.not_mem_nil, or_false] at h
  rcases h with rfl | rfl | rfl | rfl | rfl
  all_goals rfl

end

end Sys2Proof.Machine
end

section
open Sys2Proof Sys2Proof.Machine

/-- Settles O43: the append's two outcomes, and what comes next by the row and the passes behind. -/
theorem scanlineElementsReconstruct : Obligations.ScanlineElementsReconstruct := by
  intro r hr s out hprogress hin hout
  obtain ⟨hconfig, hpass, -, hline, hbw, -⟩ := hprogress
  rw [exec_filterRowsOf hr]
  refine ⟨unfilterRow_of_full r.2 hin hout (hline ▸ State.one_le_passLine hconfig hpass), fun hroom => ?_⟩
  intro cur
  obtain ⟨m, n, hrow, happ⟩ := unfilterRow_of_room r.2 hin hout hroom
  have hframe := nextLine_frame (s := s.withScanline cur m n) hbw
  refine ⟨_, congrArg Res.finish hrow, ?_, ?_, ?_, ?_, fun hnext => ?_, fun hlast hnone => ?_,
    fun q hlast hpq hq hused hfirst => ?_⟩
  · rw [hframe]
    exact happ
  · rw [hframe]
    rfl
  · rw [hframe]
    rfl
  · rw [hframe]
    rfl
  · rw [nextLine_of_row (s := s.withScanline cur m n) hnext]
    exact ⟨rfl, row_succ_toNat hnext, rfl, rfl, rfl, rfl, rfl⟩
  · rw [nextLine_of_end (s := s.withScanline cur m n) hlast.ge (State.passesBehind_eq_nil hnone)]
    exact ⟨rfl, rfl, rfl, rfl, rfl⟩
  · obtain ⟨rest, hbehind⟩ := State.passesBehind_eq_cons hpq hq hused hfirst
    rw [nextLine_of_pass (s := s.withScanline cur m n) hlast.ge hbehind]
    exact ⟨rfl, Nat.mod_eq_of_lt (Nat.lt_succ_of_le hq), rfl, Nat.mod_eq_of_lt (State.passLine_lt hconfig q), rfl, rfl,
      rfl⟩

end

section

/-! SUPPORT. A command that ends in its own step, well or with an error, and the commands on their way there
(46_commands.md R341 to R354). -/

namespace Sys2Proof.Machine

/-! ### What a command's rule leaves -/

/-- `t` is `s` but for what a command's rule writes before the command ends: OUT, OUT_LEN and the working state. -/
def State.outputFrame (s t : State) : Prop := t = { s with outLen := t.outLen, outBuf := t.outBuf, work := t.work }

theorem State.outputFrame.trans {s t u : State} (h : s.outputFrame t) (h' : t.outputFrame u) : s.outputFrame u := by
  unfold State.outputFrame at h h'
  rw [h] at h'
  exact h'

section
variable {s u : State} {rule : State → Res Unit}

theorem State.outputFrame.params (h : s.outputFrame u) : u.params = s.params := by rw [h]

theorem State.outputFrame.crcReg (h : s.outputFrame u) : u.crcReg = s.crcReg := by rw [h]

theorem State.outputFrame.adlerValue (h : s.outputFrame u) : u.adlerValue = s.adlerValue := by
  rw [h]
  rfl

/-- The next state of a command whose rule goes well on the clean state. -/
theorem exec_of_rule {i : Instr} (he : exec i s = onCommand rule s) (hs : s.canLaunch)
    (h : rule (startCommand s) = .ok () u) : exec i s = .next u :=
  (he.trans (onCommand_of_canLaunch hs)).trans (congrArg Res.finish h)

/-- A command whose rule ends it on the clean state is done. -/
theorem onCommand_completes (hs : s.canLaunch) (h : rule (startCommand s) = .ok () (complete u))
    (hu : (startCommand s).outputFrame u) : onCommand rule s = .next (complete u) ∧ s.commandDone (complete u) := by
  refine ⟨(onCommand_of_canLaunch hs).trans (congrArg Res.finish h), ?_⟩
  unfold State.outputFrame at hu
  rw [State.commandDone, hu]
  rfl

/-- A command whose rule raises ends with that error. -/
theorem onCommand_raises {k : ErrKind} (hs : s.canLaunch) (h : rule (startCommand s) = .raise k u)
    (hu : (startCommand s).outputFrame u) : ∃ t, onCommand rule s = .next t ∧ s.commandFailed k t := by
  refine ⟨raiseError k u, (onCommand_of_canLaunch hs).trans (congrArg Res.finish h), ?_⟩
  unfold State.outputFrame at hu
  rw [State.commandFailed, hu]
  rfl

/-! ### Checksums -/

/-- The halves of an updated Adler-32 value, put together again. -/
theorem adlerUpdate_halves (a : Word) (bs : List Byte) :
    (adlerUpdate a bs).extractLsb' 16 16 ++ (adlerUpdate a bs).extractLsb' 0 16 = adlerUpdate a bs := by
  unfold adlerUpdate
  rw [BitVec.extractLsb'_append_eq_left, BitVec.extractLsb'_append_eq_right]

theorem crcCommand_of_inputIs {data : List Byte} (h : s.inputIs data) :
    crcCommand s = .ok () (complete (s.setCrc (crcRun s.crcReg data))) := by
  rw [crcCommand, readAllIn_of_inputIs h, Res.bind_ok]

theorem adlerCommand_of_inputIs {data : List Byte} (h : s.inputIs data) :
    adlerCommand s = .ok () (complete (s.setAdler ((adlerUpdate s.adlerValue data).extractLsb' 0 16)
      ((adlerUpdate s.adlerValue data).extractLsb' 16 16))) := by
  rw [adlerCommand, readAllIn_of_inputIs h, Res.bind_ok]

/-! ### Decompression -/

theorem zlibCommand_of_le (f : Framing) (h : 6 ≤ s.inLen.toNat) :
    zlibCommand f s = .ok () ((s.setFraming f).setRun (.busy .zhdr)) := if_neg (Nat.not_lt.mpr h)

theorem zlibCommand_of_short (f : Framing) (h : s.inLen.toNat < 6) :
    zlibCommand f s = .raise .unexpectedEnd (s.setFraming f) := if_pos h

/-! ### UNFILTER -/

/-- The first pass of a legal image has pixels, with interlacing or without (R320). -/
theorem State.imageLegal.passUsed_one (h : s.imageLegal) : s.passUsed 1 = true := by
  obtain ⟨-, hw, hh⟩ := h
  have hsub {size : Nat} (hsize : 1 ≤ size) : subSize size 0 8 ≠ 0 := by
    unfold subSize
    omega
  simp only [State.passUsed, State.dims, passDims, Bool.and_eq_true, decide_eq_true_eq]
  split_ifs
  · exact ⟨hsub hw, hsub hh⟩
  · exact ⟨Nat.ne_of_gt hw, Nat.ne_of_gt hh⟩

/-- A legal image passes UNFILTER's check, which does not look at the strategy (R322). -/
theorem State.imageLegal.unfilterConfig (h : s.imageLegal) : filterConfigError false s = none :=
  (filterConfigError_of_imageLegal h).trans (if_neg fun h => Bool.false_ne_true h.1)

/-- UNFILTER begins with the first pass. -/
theorem unfilterCommand_of_imageLegal (himg : s.imageLegal) (hlen : s.inLen.toNat = s.filtLen) :
    unfilterCommand s =
      .ok () ((beginPass 1 (s.setLine { s.work.line with pos := 0 })).setRun (.busy .scanline)) := by
  have hlengths : lengthsOk false s = true := decide_eq_true hlen
  have hpasses : s.usedPasses = 1 :: [2, 3, 4, 5, 6, 7].filter s.passUsed := List.filter_cons_of_pos himg.passUsed_one
  rw [unfilterCommand, himg.unfilterConfig, hlengths, hpasses]
  rfl

/-! ### Illegal command words -/

/-- A row of the command format that is not an opcode is one of those of R342. -/
theorem exec_of_not_opcode {i : Instr} (hf : i.format = .cmdw) (hv : i.value ∉ opcodes) (s : State) :
    exec i s = onCommand badCommand s := by
  cases i with
  | nop | inflate | zlibDecompress | zlibInfo | deflate | zlibCompress | crcInit | crcUpdate | adlerInit | adlerUpdate
  | filter | unfilter => exact absurd (by decide) hv
  | _ => cases hf <;> rfl

end

end Sys2Proof.Machine
end

section
open Sys2Proof Sys2Proof.Machine

/-- Settles O46: each of the five commands is done at once; the updates run over what they read of IN. -/
theorem nopAndChecksumCommands : Obligations.NopAndChecksumCommands := by
  intro s hs
  have hadler : 0#16 ++ 1#16 = 1#32 := by decide
  refine ⟨⟨_, onCommand_of_canLaunch (rule := fun s => .ok () (complete s)) hs, rfl, rfl, rfl, rfl⟩,
    ⟨_, onCommand_of_canLaunch (rule := fun s => .ok () (complete (s.setCrc 0xFFFFFFFF#32))) hs, rfl, rfl, rfl,
      BitVec.xor_self, rfl⟩,
    ⟨_, onCommand_of_canLaunch (rule := fun s => .ok () (complete (s.setAdler 1#16 0#16))) hs, rfl, rfl, hadler, rfl⟩,
    fun data hdata => ⟨?_, ?_⟩⟩
  · have hrun : crcCommand (startCommand s) = _ := crcCommand_of_inputIs hdata
    rw [startCommand_crcReg, crcRun_eq_foldl] at hrun
    exact ⟨_, exec_of_rule rfl hs hrun, rfl, rfl, rfl, rfl, rfl⟩
  · have hrun : adlerCommand (startCommand s) = _ := adlerCommand_of_inputIs hdata
    exact ⟨_, exec_of_rule rfl hs hrun, rfl, rfl, adlerUpdate_halves s.adlerValue data, rfl⟩

/-- Settles O47: INFLATE starts at once, the zlib commands after their length check. -/
theorem decompressCommandsStart : Obligations.DecompressCommandsStart := by
  intro s hs
  refine ⟨⟨_, exec_of_rule (rule := inflateCommand) rfl hs rfl, rfl, rfl, rfl, rfl, rfl, rfl, rfl, rfl, rfl, rfl, rfl⟩,
    fun i f hif => ?_⟩
  have hexec : exec i s = onCommand (zlibCommand f) s := by
    simp only [List.mem_cons, Prod.mk.injEq, List.not_mem_nil, or_false] at hif
    rcases hif with ⟨rfl, rfl⟩ | ⟨rfl, rfl⟩
    all_goals rfl
  refine ⟨fun hlen => ?_, fun hshort => hexec ▸ onCommand_raises hs (zlibCommand_of_short f hshort) rfl⟩
  exact ⟨_, exec_of_rule hexec hs (zlibCommand_of_le (s := startCommand s) f hlen), rfl, rfl, rfl, rfl, rfl, rfl, rfl,
    rfl, rfl, rfl, rfl⟩

/-- Settles O51: the first scanline of the first pass comes next. -/
theorem unfilterCommandStarts : Obligations.UnfilterCommandStarts := by
  intro s hs himg hlen
  have hpass : 1 ∈ s.usedPasses := List.mem_filter.mpr ⟨by decide, himg.passUsed_one⟩
  obtain ⟨-, -, -, hline, hbw, -⟩ := lineInProgress_beginPass
    (s := (startCommand s).setLine { (startCommand s).work.line with pos := 0 }) himg.unfilterConfig hpass
  have hrun : unfilterCommand (startCommand s) = _ := unfilterCommand_of_imageLegal himg hlen
  exact ⟨_, exec_of_rule rfl hs hrun, rfl, rfl, rfl, hline, hbw, rfl, rfl, rfl, rfl, rfl, rfl⟩

/-- Settles O53: the rows that are not opcodes raise BadCommand, and the decoder keeps a word's number. -/
theorem illegalCommandsEndWithBadCommand : Obligations.IllegalCommandsEndWithBadCommand := by
  refine ⟨fun i s hf hv hs => ?_, fun v hv => ?_⟩
  · rw [exec_of_not_opcode hf hv]
    exact onCommand_fails hs rfl
  · obtain ⟨i, hi⟩ := Option.isSome_iff_exists.mp (decodeCmdw_isSome.mpr v.isLt)
    obtain ⟨hf, hvalue⟩ := Prod.mk.inj (encode_of_decodeCmdw hi)
    exact ⟨i, hi, hf, fun h => hv (hvalue ▸ h)⟩

end

section

/-! SUPPORT. DEFLATE and ZLIB_COMPRESS deliver their stream (46_commands.md R347, R348): operations that append bytes to
OUT or fail for want of room, one after another. -/

namespace Sys2Proof.Machine

/-! ### Operations that append -/

theorem Res.bind_assoc {α β γ : Type} (x : Res α) (f : α → State → Res β) (g : β → State → Res γ) :
    (x.bind f).bind g = x.bind fun a s => (f a s).bind g := by
  cases x <;> rfl

/-- From `s` the operation appends `bs` to OUT, or raises OutOfCapacity when they do not fit. -/
structure Res.Appends (s : State) (bs : List Byte) (x : Res Unit) : Prop where
  room : s.outLen.toNat + bs.length ≤ s.params.outCap.toNat →
    ∃ u, x = .ok () u ∧ s.outputFrame u ∧ s.appended u bs
  full : s.outLen.toNat ≤ s.params.outCap.toNat → s.params.outCap.toNat < s.outLen.toNat + bs.length →
    ∃ u, x = .raise .outOfCapacity u ∧ s.outputFrame u

section
variable {s : State} {bs cs : List Byte} {x : Res Unit}

theorem appendAll_appends (bs : List Byte) (s : State) : (appendAll bs s).Appends s bs where
  room h := by
    obtain ⟨u, hu, hframe, happ⟩ := appendAll_of_room h
    exact ⟨u, hu, by rw [hframe]; rfl, happ⟩
  full hlen h := by
    obtain ⟨u, hu, hframe⟩ := appendAll_of_full h (by omega)
    exact ⟨u, hu, by rw [hframe]; rfl⟩

/-- The working state an operation starts from does not matter for what it appends. -/
theorem Res.Appends.of_work {w : Work} (h : x.Appends { s with work := w } bs) : x.Appends s bs := ⟨h.room, h.full⟩

/-- Appending one sequence of bytes and then another appends both. -/
theorem Res.Appends.bind {f : State → Res Unit} (hx : x.Appends s bs)
    (hf : ∀ u, s.outputFrame u → (f u).Appends u cs) : (x.bind fun _ u => f u).Appends s (bs ++ cs) := by
  constructor
  · intro hroom
    rw [List.length_append] at hroom
    obtain ⟨u, rfl, hu, happ⟩ := hx.room (by omega)
    obtain ⟨v, hv, hframe, happ'⟩ := (hf u hu).room (by rw [happ.1, hu.params]; omega)
    exact ⟨v, hv, hu.trans hframe, State.appended_trans happ happ'⟩
  · intro hlen hfull
    rw [List.length_append] at hfull
    by_cases hroom : s.outLen.toNat + bs.length ≤ s.params.outCap.toNat
    · obtain ⟨u, rfl, hu, happ⟩ := hx.room hroom
      obtain ⟨v, hv, hframe⟩ :=
        (hf u hu).full (by rw [happ.1, hu.params]; exact hroom) (by rw [happ.1, hu.params]; omega)
      exact ⟨v, hv, hu.trans hframe⟩
    · obtain ⟨u, rfl, hu⟩ := hx.full hlen (Nat.lt_of_not_le hroom)
      exact ⟨u, rfl, hu⟩

/-! ### Commands that append -/

section
variable {rule : State → Res Unit} (hs : s.canLaunch)
  (hrule : rule (startCommand s) = x.bind fun _ u => .ok () (complete u)) (hx : x.Appends (startCommand s) bs)
include hs hrule hx

/-- A command that appends its result to the empty OUT is done when the result fits. -/
theorem onCommand_delivers (hroom : bs.length ≤ s.params.outCap.toNat) :
    ∃ t, onCommand rule s = .next t ∧ s.commandDone t ∧ t.outLen.toNat = bs.length ∧
      t.outBuf.bytes 0 bs.length = some bs ∧ t.crcReg = s.crcReg ∧ t.adlerValue = s.adlerValue := by
  obtain ⟨u, rfl, hu, happ⟩ := hx.room ((Nat.zero_add _).trans_le hroom)
  obtain ⟨hnext, hdone⟩ := onCommand_completes hs hrule hu
  obtain ⟨hlen, hbytes⟩ := State.bytes_of_appended rfl happ
  exact ⟨_, hnext, hdone, hlen, hbytes, hu.crcReg, hu.adlerValue⟩

/-- It ends with OutOfCapacity when the result does not fit. -/
theorem onCommand_outOfCapacity (hfull : s.params.outCap.toNat < bs.length) :
    ∃ t, onCommand rule s = .next t ∧ s.commandFailed .outOfCapacity t := by
  obtain ⟨u, rfl, hu⟩ := hx.full (Nat.zero_le _) (hfull.trans_eq (Nat.zero_add _).symm)
  exact onCommand_raises hs hrule hu

end

/-! ### The compressor -/

/-- The bytes of the stream the compressor plans for `data` (R264, R139). -/
def State.plannedStream (s : State) (data : List Byte) : List Byte :=
  finalize (streamBits 0 data (choosePlans s data).1)

/-- The contract speaks of the configuration, which an operation inside a command leaves. -/
theorem State.outputFrame.plansCover {u : State} (h : s.outputFrame u) (data : List Byte) (start : Nat)
    (plans : List BlockPlan) : plansCover u data start plans = plansCover s data start plans := by
  have hok (start : Nat) (p : BlockPlan) : planOk u data start p = planOk s data start p := by
    rw [h]
    rfl
  induction plans generalizing start with
  | nil => rfl
  | cons p rest ih => rw [Machine.plansCover, hok, ih, Machine.plansCover]

/-- So does the plan, and of the model's own fields. -/
theorem State.outputFrame.plannedStream {u : State} (h : s.outputFrame u) (data : List Byte) :
    u.plannedStream data = s.plannedStream data := by
  have hok (plans : List BlockPlan) : plansOk u data plans = plansOk s data plans :=
    congrArg (!plans.isEmpty && ·) (h.plansCover data 0 plans)
  have href : referencePlans u data = referencePlans s data := by
    rw [h]
    rfl
  have hfree : u.freeCtr = s.freeCtr := by rw [h]
  have hplans : choosePlans u data = choosePlans s data := by
    simp only [choosePlans, h.params, hfree, hok, href]
  rw [State.plannedStream, hplans, State.plannedStream]

theorem deflateBody_appends (data : List Byte) (s : State) :
    (deflateBody data s).Appends s (s.plannedStream data) :=
  .of_work (appendAll_appends _ _)

/-- A legal configuration passes the check (R261). -/
theorem deflateConfigError_of_deflateLegal (h : s.deflateLegal) : deflateConfigError s = none := by
  obtain ⟨⟨k, h8, h15, hw⟩, hbtype, hmin, hnice⟩ := h
  have hlow : 2 ^ 8 ≤ s.windowSize.toNat := hw ▸ Nat.pow_le_pow_right (by decide) h8
  have hhigh : s.windowSize.toNat ≤ 2 ^ 15 := hw ▸ Nat.pow_le_pow_right (by decide) h15
  have hpow : ¬ s.windowSize.toNat ≠ 2 ^ s.windowSize.toNat.log2 :=
    fun hne => (ne_two_pow_log2_iff _).mp hne k hw
  rw [deflateConfigError, if_neg (by omega), if_neg hpow, if_neg hbtype, if_neg (by omega), if_neg (by omega)]

section
variable {data : List Byte} (hlegal : s.deflateLegal) (hdata : s.inputIs data)
include hlegal hdata

theorem deflateCommand_of_legal :
    deflateCommand s = (deflateBody data s).bind fun _ u => .ok () (complete u) := by
  rw [deflateCommand, deflateConfigError_of_deflateLegal hlegal]
  dsimp only
  rw [readAllIn_of_inputIs hdata, Res.bind_ok]

/-- ZLIB_COMPRESS appends the zlib header, the stream and the Adler-32 of the input (R291). -/
theorem zlibCompressCommand_of_legal : ∃ x : Res Unit,
    zlibCompressCommand s = x.bind (fun _ u => .ok () (complete u)) ∧
      x.Appends s ([0x78#8, 0x01#8] ++ s.plannedStream data ++ bigEndian (adler32 data)) := by
  refine ⟨((appendAll [0x78#8, 0x01#8] s).bind fun _ s => deflateBody data s).bind fun _ s =>
    appendAll (bigEndian (adler32 data)) (s.setRegs { s.work.regs with
      s1 := ((adler32 data).extractLsb' 0 16).zeroExtend 32
      s2 := ((adler32 data).extractLsb' 16 16).zeroExtend 32 }), ?_, ?_⟩
  · rw [zlibCompressCommand, deflateConfigError_of_deflateLegal hlegal]
    dsimp only
    rw [readAllIn_of_inputIs hdata, Res.bind_ok, Res.bind_assoc, Res.bind_assoc]
  · refine Res.Appends.bind (Res.Appends.bind (appendAll_appends _ s) fun u hu => ?_) fun u _ => ?_
    · exact hu.plannedStream data ▸ deflateBody_appends data u
    · exact .of_work (appendAll_appends _ _)

end
end

end Sys2Proof.Machine
end

section
open Sys2Proof Sys2Proof.Machine

/-- Settles O48: both commands append their stream to the empty OUT, which fits or does not. -/
theorem compressCommandsDeliverTheStream : Obligations.CompressCommandsDeliverTheStream := by
  rintro s data z hs hlegal hdata rfl
  have hdeflate := deflateCommand_of_legal (s := startCommand s) hlegal hdata
  have hbody := deflateBody_appends data (startCommand s)
  obtain ⟨x, hzlib, hx⟩ := zlibCompressCommand_of_legal (s := startCommand s) hlegal hdata
  have hcount : ([0x78#8, 0x01#8] ++ (startCommand s).plannedStream data ++ bigEndian (adler32 data)).length =
      ((startCommand s).plannedStream data).length + 6 := by
    simp only [List.length_append, List.length_cons, List.length_nil, bigEndian]
    omega
  refine ⟨onCommand_delivers hs hdeflate hbody, onCommand_outOfCapacity hs hdeflate hbody, ?_, ?_⟩
  · have hdelivers := onCommand_delivers hs hzlib hx
    rwa [hcount] at hdelivers
  · have hfails := onCommand_outOfCapacity hs hzlib hx
    rwa [hcount] at hfails

end

section

/-! SUPPORT. FILTER filters its image line after line (46_commands.md R353, 45_filter.md R321): operations that filter
some scanlines into OUT, or end with the error of the first that is not possible, one after another. -/

namespace Sys2Proof.Machine

/-! ### Scanlines and their bytes -/

theorem bytesOfFirst_length (lines : List Scanline) :
    bytesOfFirst lines.length lines = (lines.map fun l => l.raw.length + 1).sum := by
  rw [bytesOfFirst, List.take_length]

theorem bytesOfFirst_append_of_le {i : Nat} {ls : List Scanline} (ms : List Scanline) (h : i ≤ ls.length) :
    bytesOfFirst i (ls ++ ms) = bytesOfFirst i ls := by
  rw [bytesOfFirst, List.take_append_of_le_length h, bytesOfFirst]

theorem bytesOfFirst_append_add (j : Nat) (ls ms : List Scanline) :
    bytesOfFirst (ls.length + j) (ls ++ ms) = bytesOfFirst ls.length ls + bytesOfFirst j ms := by
  rw [bytesOfFirst, List.take_length_add_append, List.map_append, List.sum_append, bytesOfFirst_length, bytesOfFirst]

theorem length_scanlines (n h : Nat) (prior data : List Byte) : (scanlines n h prior data).length = h := by
  induction h generalizing prior data with
  | zero => rfl
  | succ h ih => rw [scanlines, List.length_cons, ih]

theorem bytesOfFirst_scanlines {n h : Nat} {prior data : List Byte} (hdata : h * n ≤ data.length) :
    bytesOfFirst h (scanlines n h prior data) = h * n + h := by
  induction h generalizing prior data with
  | zero => rw [Nat.zero_mul]; rfl
  | succ h ih =>
    rw [Nat.succ_mul] at hdata
    have hrest := ih (prior := data.take n) (data := data.drop n) (by rw [List.length_drop]; omega)
    rw [bytesOfFirst] at hrest
    rw [bytesOfFirst, scanlines, List.take_succ_cons, List.map_cons, List.sum_cons, hrest,
      List.length_take_of_le (by omega), Nat.succ_mul]
    omega

theorem State.length_passScanlines (s : State) (ps : List Nat) (data : List Byte) :
    (s.passScanlines ps data).length = (ps.map fun p => (s.dims p).2).sum := by
  induction ps generalizing data with
  | nil => rfl
  | cons p rest ih =>
    rw [State.passScanlines, List.length_append, length_scanlines, ih, List.map_cons, List.sum_cons]

/-- The passes' scanlines are their raw bytes with a filter byte each (R323). -/
theorem State.bytesOfFirst_passScanlines {s : State} {ps : List Nat} {data : List Byte}
    (hdata : (ps.map fun p => (s.dims p).2 * s.passLine p).sum ≤ data.length) :
    bytesOfFirst (s.passScanlines ps data).length (s.passScanlines ps data) =
      (ps.map fun p => (s.dims p).2 * s.passLine p).sum + (ps.map fun p => (s.dims p).2).sum := by
  induction ps generalizing data with
  | nil => rfl
  | cons p rest ih =>
    rw [List.map_cons, List.sum_cons] at hdata
    have hpass := bytesOfFirst_scanlines (n := s.passLine p) (h := (s.dims p).2)
      (prior := List.replicate (s.passLine p) 0#8) (data := data) (by omega)
    have hrest := ih (data := data.drop ((s.dims p).2 * s.passLine p)) (by rw [List.length_drop]; omega)
    rw [State.passScanlines, List.length_append, bytesOfFirst_append_add, length_scanlines, hpass, hrest]
    simp only [List.map_cons, List.sum_cons]
    omega

/-- A part of the input as the bytes of IN. -/
theorem State.bytes_of_inputIs {s : State} {data : List Byte} {a n : Nat} (h : s.inputIs data)
    (hn : a + n ≤ data.length) : s.inBuf.bytes a n = some ((data.drop a).take n) := by
  obtain ⟨hlen, hread⟩ := (Memory.bytes_eq_some_iff _ _ _ _).mp h
  refine (Memory.bytes_eq_some_iff _ _ _ _).mpr ⟨by rw [List.length_take, List.length_drop]; omega, fun i hi => ?_⟩
  rw [List.getElem?_take_of_lt hi, List.getElem?_drop, ← hread (a + i) (by omega), Nat.zero_add]

/-! ### What an operation of FILTER comes to -/

/-- Scanline `k` of the command has a filter type: only a predefined one may be missing or illegal (R317, R309). -/
def State.lineLegal (s : State) (k : Nat) : Prop := s.effectiveStrategy = 4 → s.auxLegal k

/-- From `s`, the scanlines from number `k` on have been filtered by these types into OUT of `t`. -/
structure State.filteredTo (s : State) (k : Nat) (lines : List Scanline) (types : List Nat) (t : State) : Prop where
  count : types.length = lines.length
  picks : ∀ j l, lines[j]? = some l →
    s.picks (k + j) (fun f => filterLine f (byteWidth s.bitsPerPixel) l.raw l.prior) (types.getD j 0)
  out : s.appended t ((lines.zip types).flatMap fun x => x.1.filtered (byteWidth s.bitsPerPixel) x.2)

/-- From `s` the operation filters the scanlines from number `k` on and ends as `post` says, or it ends with the error
of the first scanline whose filter byte is illegal or which does not fit OUT. -/
structure Res.Filters (s : State) (k : Nat) (lines : List Scanline) (post : State → Prop) (x : Res Unit) : Prop where
  room : (∀ j < lines.length, s.lineLegal (k + j)) →
    s.outLen.toNat + bytesOfFirst lines.length lines ≤ s.params.outCap.toNat →
    ∃ t types, x = .ok () t ∧ s.outputFrame t ∧ post t ∧ s.filteredTo k lines types t
  illegal : ∀ i b, s.effectiveStrategy = 4 → i < lines.length → (∀ j < i, s.auxLegal (k + j)) →
    s.auxBuf.read (k + i) = some b → 4 < b.toNat → s.outLen.toNat + bytesOfFirst i lines ≤ s.params.outCap.toNat →
    ∃ u, x = .raise .invalidFilterType u ∧ s.outputFrame u
  full : s.outLen.toNat ≤ s.params.outCap.toNat → ∀ i ≤ lines.length, (∀ j < i, s.lineLegal (k + j)) →
    s.params.outCap.toNat < s.outLen.toNat + bytesOfFirst i lines →
    ∃ u, x = .raise .outOfCapacity u ∧ s.outputFrame u

section
variable {s t : State} {k : Nat} {lines ls ms : List Scanline} {types : List Nat} {post p q : State → Prop}
  {x : Res Unit}

theorem State.outputFrame.effectiveStrategy (h : s.outputFrame t) : t.effectiveStrategy = s.effectiveStrategy := by
  rw [h]
  rfl

theorem State.outputFrame.auxBuf (h : s.outputFrame t) : t.auxBuf = s.auxBuf := by rw [h]

theorem State.outputFrame.bitsPerPixel (h : s.outputFrame t) : t.bitsPerPixel = s.bitsPerPixel := by
  rw [h]
  rfl

theorem State.outputFrame.dims (h : s.outputFrame t) : t.dims = s.dims := by
  rw [h]
  rfl

theorem State.outputFrame.lineLegal (h : s.outputFrame t) : t.lineLegal k ↔ s.lineLegal k := by
  rw [h]
  rfl

theorem State.filteredTo.outLen (h : s.filteredTo k lines types t) :
    t.outLen.toNat = s.outLen.toNat + bytesOfFirst lines.length lines := by
  have hbytes (y : Scanline × Nat) :
      (y.1.filtered (byteWidth s.bitsPerPixel) y.2).length = (fun l => l.raw.length + 1) y.1 := by
    rw [Scanline.filtered, List.length_cons, filterLine_length]
  rw [h.out.1, List.length_flatMap, bytesOfFirst_length, ← List.map_fst_zip (l₂ := types) h.count.ge, List.map_map]
  simp only [hbytes, Function.comp_def, List.map_fst_zip h.count.ge]

/-- Scanlines filtered after scanlines filtered. -/
theorem State.filteredTo.append {types' : List Nat} {u : State} (hframe : s.outputFrame t)
    (h : s.filteredTo k ls types t) (h' : t.filteredTo (k + ls.length) ms types' u) :
    s.filteredTo k (ls ++ ms) (types ++ types') u where
  count := by rw [List.length_append, List.length_append, h.count, h'.count]
  picks j l hj := by
    by_cases hlt : j < ls.length
    · rw [List.getElem?_append_left hlt] at hj
      rw [List.getD_append _ _ _ _ (by rw [h.count]; exact hlt)]
      exact h.picks j l hj
    · rw [List.getElem?_append_right (Nat.le_of_not_lt hlt)] at hj
      have hpick := h'.picks _ l hj
      rw [List.getD_append_right _ _ _ _ (by rw [h.count]; exact Nat.le_of_not_lt hlt), h.count]
      rw [Nat.add_assoc, Nat.add_sub_cancel' (Nat.le_of_not_lt hlt), hframe] at hpick
      exact hpick
  out := by
    have hout := h'.out
    rw [hframe.bitsPerPixel] at hout
    rw [List.zip_append h.count.symm, List.flatMap_append]
    exact State.appended_trans h.out hout

/-- The working state an operation starts from does not matter for what it filters. -/
theorem Res.Filters.of_work {w : Work} (h : x.Filters { s with work := w } k lines post) :
    x.Filters s k lines post where
  room hl hroom := by
    obtain ⟨t, types, hx, hframe, hpost, hfilt⟩ := h.room hl hroom
    exact ⟨t, types, hx, hframe, hpost, ⟨hfilt.count, hfilt.picks, hfilt.out⟩⟩
  illegal := h.illegal
  full := h.full

theorem Res.Filters.mono (h : x.Filters s k lines p) (hpq : ∀ t, p t → q t) : x.Filters s k lines q where
  room hl hroom := by
    obtain ⟨t, types, hx, hframe, hpost, hfilt⟩ := h.room hl hroom
    exact ⟨t, types, hx, hframe, hpq t hpost, hfilt⟩
  illegal := h.illegal
  full := h.full

theorem Res.Filters.nil (h : post s) : (Res.ok () s).Filters s k [] post where
  room _ _ := ⟨s, [], rfl, rfl, h, rfl, nofun, rfl, nofun, fun _ _ => rfl⟩
  illegal _ _ _ hi := absurd hi (Nat.not_lt_zero _)
  full hle i hi _ hfull := by
    obtain rfl := Nat.le_zero.mp hi
    exact absurd hfull (Nat.not_lt.mpr hle)

/-- Filtering some scanlines and then others filters all of them. -/
theorem Res.Filters.bind {f : State → Res Unit} (hx : x.Filters s k ls p)
    (hf : ∀ t, s.outputFrame t → p t → (f t).Filters t (k + ls.length) ms q) :
    (x.bind fun _ t => f t).Filters s k (ls ++ ms) q where
  room hl hroom := by
    rw [List.length_append] at hl hroom
    rw [bytesOfFirst_append_add] at hroom
    obtain ⟨t, types, rfl, ht, hp, hfilt⟩ := hx.room (fun j hj => hl j (by omega)) (by omega)
    obtain ⟨u, types', hu, htu, hq, hfilt'⟩ := (hf t ht hp).room
      (fun j hj => ht.lineLegal.mpr (Nat.add_assoc k _ _ ▸ hl (ls.length + j) (by omega)))
      (by rw [hfilt.outLen, ht.params]; omega)
    exact ⟨u, types ++ types', hu, ht.trans htu, hq, hfilt.append ht hfilt'⟩
  illegal i b hstrat hi haux hread hb hroom := by
    rw [List.length_append] at hi
    rcases Nat.lt_or_ge i ls.length with hlt | hge
    · rw [bytesOfFirst_append_of_le ms hlt.le] at hroom
      obtain ⟨u, rfl, hu⟩ := hx.illegal i b hstrat hlt haux hread hb hroom
      exact ⟨u, rfl, hu⟩
    · obtain ⟨j, rfl⟩ := Nat.exists_eq_add_of_le hge
      rw [bytesOfFirst_append_add] at hroom
      obtain ⟨t, types, rfl, ht, hp, hfilt⟩ := hx.room (fun j hj _ => haux j (by omega)) (by omega)
      obtain ⟨u, hu, htu⟩ := (hf t ht hp).illegal j b (ht.effectiveStrategy.trans hstrat) (by omega)
        (fun m hm => ht.lineLegal.mpr (fun _ => Nat.add_assoc k _ _ ▸ haux (ls.length + m) (by omega))
          (ht.effectiveStrategy.trans hstrat))
        (by rw [ht.auxBuf, Nat.add_assoc]; exact hread) hb (by rw [hfilt.outLen, ht.params]; omega)
      exact ⟨u, hu, ht.trans htu⟩
  full hle i hi hl hfull := by
    rw [List.length_append] at hi
    by_cases hfirst : i ≤ ls.length
    · rw [bytesOfFirst_append_of_le ms hfirst] at hfull
      obtain ⟨u, rfl, hu⟩ := hx.full hle i hfirst hl hfull
      exact ⟨u, rfl, hu⟩
    · obtain ⟨j, rfl⟩ := Nat.exists_eq_add_of_le (Nat.le_of_not_le hfirst)
      rw [bytesOfFirst_append_add] at hfull
      by_cases hroom : s.outLen.toNat + bytesOfFirst ls.length ls ≤ s.params.outCap.toNat
      · obtain ⟨t, types, rfl, ht, hp, hfilt⟩ := hx.room (fun m hm => hl m (by omega)) hroom
        obtain ⟨u, hu, htu⟩ := (hf t ht hp).full (by rw [hfilt.outLen, ht.params]; exact hroom) j (by omega)
          (fun m hm => ht.lineLegal.mpr (Nat.add_assoc k _ _ ▸ hl (ls.length + m) (by omega)))
          (by rw [hfilt.outLen, ht.params]; omega)
        exact ⟨u, hu, ht.trans htu⟩
      · obtain ⟨u, rfl, hu⟩ := hx.full hle ls.length (Nat.le_refl _) (fun m hm => hl m (by omega))
          (Nat.lt_of_not_le hroom)
        exact ⟨u, rfl, hu⟩

end

/-! ### One scanline -/

/-- The command's input and configuration: what it has checked before the first scanline. -/
structure State.filterReady (s : State) (data : List Byte) : Prop where
  input : s.inputIs data
  config : filterConfigError true s = none
  strategy : s.effectiveStrategy ≤ 4

/-- The command is at scanline `k`, whose bytes start at `pos`. -/
def State.atLine (s : State) (k pos : Nat) : Prop := s.work.line.line = k ∧ s.work.line.pos = pos

/-- It is inside a pass with scanlines of `n` bytes, behind the scanline `prior`. -/
structure State.atRow (s : State) (n : Nat) (prior : List Byte) (k pos : Nat) : Prop where
  line : s.atLine k pos
  linebytes : s.work.regs.linebytes.toNat = n
  bytewidth : s.work.regs.bytewidth.toNat = byteWidth s.bitsPerPixel
  prior : s.work.line.prior = prior

section
variable {s t : State} {data prior : List Byte} {n k pos : Nat}

theorem State.outputFrame.filterReady (h : s.outputFrame t) (hs : s.filterReady data) : t.filterReady data := by
  obtain ⟨hinput, hconfig, hstrat⟩ := hs
  constructor
  · rw [h]
    exact hinput
  · rw [h]
    exact hconfig
  · rw [h.effectiveStrategy]
    exact hstrat

theorem chooseFilter_of_predefined (h : s.effectiveStrategy = 4) : chooseFilter s = predefinedFilter s := by
  unfold chooseFilter
  dsimp only
  rw [h]
  rfl

/-- An illegal predefined filter byte (R309). -/
theorem predefinedFilter_of_illegal {b : Byte} (h : s.auxBuf.read s.work.line.line = some b) (hb : 4 < b.toNat) :
    predefinedFilter s = .raise .invalidFilterType s := by
  rw [predefinedFilter, h]
  exact if_pos hb

/-- The scanline `cur` filtered by type `f`, as the registers of the pass say. -/
def State.candidate (s : State) (cur : List Byte) (f : Nat) : List Byte :=
  filterLine f s.work.regs.bytewidth.toNat cur s.work.line.prior

section
variable {cur : List Byte} (hin : s.work.line.pos + s.work.regs.linebytes.toNat ≤ s.inLen.toNat)
  (hcur : s.inBuf.bytes s.work.line.pos s.work.regs.linebytes.toNat = some cur)
include hin hcur

/-- A scanline whose predefined filter byte is illegal. -/
theorem filterRow_of_illegal {b : Byte} (hstrat : s.effectiveStrategy = 4)
    (hread : s.auxBuf.read s.work.line.line = some b) (hb : 4 < b.toNat) :
    ∃ u, filterRow s = .raise .invalidFilterType u ∧ s.outputFrame u := by
  have hraise := (chooseFilter_of_predefined (s := s.withTrial cur (s.candidate cur)) hstrat).trans
    (predefinedFilter_of_illegal (s := s.withTrial cur (s.candidate cur)) hread hb)
  refine ⟨s.withTrial cur (s.candidate cur), ?_, rfl⟩
  rw [filterRow, readInBytes_of_bytes hin hcur, Res.bind_ok]
  exact congrArg (Res.bind · _) hraise

/-- A scanline that does not fit OUT. -/
theorem filterRow_of_full (hstrat : s.effectiveStrategy ≤ 4) (hlegal : s.lineLegal s.work.line.line)
    (hfull : s.params.outCap.toNat < s.outLen.toNat + (s.work.regs.linebytes.toNat + 1)) :
    ∃ u, filterRow s = .raise .outOfCapacity u ∧ s.outputFrame u := by
  obtain ⟨f, hchoice, hpicks⟩ := chooseFilter_picks (s := s.withTrial cur (s.candidate cur)) rfl hstrat hlegal
  have hcount : (BitVec.ofNat 8 f :: s.candidate cur f).length = s.work.regs.linebytes.toNat + 1 := by
    rw [List.length_cons, State.candidate, filterLine_length, Memory.bytes_length hcur]
  obtain ⟨u, hu, hframe⟩ := appendAll_of_full (bs := BitVec.ofNat 8 f :: s.candidate cur f)
    (s := (s.withTrial cur (s.candidate cur)).setRegs { s.work.regs with f := BitVec.ofNat 8 f })
    (by rw [hcount]; exact hfull) (Nat.succ_pos _)
  refine ⟨u, ?_, by rw [hframe]; rfl⟩
  rw [filterRow_of_choice (candidate := s.candidate cur) hin hcur rfl hpicks.1 hchoice, hu, Res.bind_raise]

end

/-- One scanline of FILTER, possible or with one of its two errors. -/
theorem filterRow_filters (hs : s.filterReady data) (hrow : s.atRow n prior k pos) (hn : pos + n ≤ data.length) :
    (filterRow s).Filters s k [{ raw := (data.drop pos).take n, prior := prior }]
      fun t => t.atRow n ((data.drop pos).take n) (k + 1) (pos + n) := by
  obtain ⟨⟨rfl, rfl⟩, rfl, hbw, rfl⟩ := hrow
  obtain ⟨hinput, -, hstrat⟩ := hs
  have hcur := State.bytes_of_inputIs hinput hn
  have hin : s.work.line.pos + s.work.regs.linebytes.toNat ≤ s.inLen.toNat :=
    hn.trans_eq (Memory.bytes_length hinput)
  generalize (data.drop s.work.line.pos).take s.work.regs.linebytes.toNat = cur at hcur
  have hbytes : bytesOfFirst 1 [{ raw := cur, prior := s.work.line.prior }] = s.work.regs.linebytes.toNat + 1 :=
    congrArg (· + 1) (Memory.bytes_length hcur)
  constructor
  · intro hl hroom
    obtain ⟨f, t, ht, hpicks, happ, hframe⟩ := filterRowChoosesAndFilters s cur hin hcur
      (by rw [Nat.add_assoc, ← hbytes]; exact hroom) hstrat (hl 0 Nat.one_pos)
    rw [hbw] at hpicks happ
    refine ⟨t, [f], ht, by rw [hframe]; rfl, ?_, rfl, fun j l hj => ?_, ?_⟩
    · rw [hframe]
      exact ⟨⟨rfl, rfl⟩, rfl, hbw, rfl⟩
    · obtain ⟨rfl, rfl⟩ : j = 0 ∧ _ = l := by simpa [List.getElem?_singleton] using hj
      exact hpicks
    · simpa [Scanline.filtered] using happ
  · intro i b hstrat hi _ hread hb _
    obtain rfl : i = 0 := Nat.lt_one_iff.mp hi
    exact filterRow_of_illegal hin hcur hstrat hread hb
  · intro hle i hi hl hfull
    obtain rfl | rfl := Nat.le_one_iff_eq_zero_or_eq_one.mp hi
    · exact absurd hfull (Nat.not_lt.mpr hle)
    · exact filterRow_of_full hin hcur hstrat (hl 0 Nat.one_pos) (hbytes ▸ hfull)

/-! ### Passes -/

/-- The rows of a pass. -/
theorem filterRows_filters (h row : Nat) (hs : s.filterReady data) (hrow : s.atRow n prior k pos)
    (hn : pos + h * n ≤ data.length) :
    (filterRows h row s).Filters s k (scanlines n h prior (data.drop pos)) fun t => t.atLine (k + h) (pos + h * n) := by
  induction h generalizing s prior k pos row with
  | zero => exact .nil (by rw [Nat.zero_mul]; exact hrow.line)
  | succ h ih =>
    rw [Nat.succ_mul] at hn ⊢
    have hfirst := filterRow_filters (s := s.setRegs { s.work.regs with row := BitVec.ofNat 31 row })
      ⟨hs.input, hs.config, hs.strategy⟩ ⟨hrow.line, hrow.linebytes, hrow.bytewidth, hrow.prior⟩
      (by omega : pos + n ≤ data.length)
    refine Res.Filters.bind (ms := scanlines n h _ _) hfirst.of_work fun t ht hnext => ?_
    have hrest := ih (row + 1) (ht.filterReady hs) hnext (by omega)
    rw [← List.drop_drop] at hrest
    exact hrest.mono fun u hu => by
      rwa [Nat.add_assoc, Nat.add_comm 1, Nat.add_assoc, Nat.add_comm n] at hu

/-- The first row of a pass. -/
theorem atRow_beginPass (p : Nat) (hconfig : filterConfigError true s = none) (hline : s.atLine k pos) :
    (beginPass p s).atRow (s.passLine p) (List.replicate (s.passLine p) 0#8) k pos where
  line := hline
  linebytes := Nat.mod_eq_of_lt (State.passLine_lt hconfig p)
  bytewidth := by
    have := State.bitsPerPixel_le hconfig
    exact Nat.mod_eq_of_lt (by unfold byteWidth; omega)
  prior := rfl

/-- The scanlines depend on the image, and on nothing else. -/
theorem State.passScanlines_congr (hdims : t.dims = s.dims) (hbits : t.bitsPerPixel = s.bitsPerPixel) (ps : List Nat)
    (data : List Byte) : t.passScanlines ps data = s.passScanlines ps data := by
  induction ps generalizing data with
  | nil => rfl
  | cons p rest ih => simp only [State.passScanlines, ih, State.passLine, hdims, hbits]

@[simp] theorem setLine_passScanlines (s : State) (l : LineState) (ps : List Nat) (data : List Byte) :
    (s.setLine l).passScanlines ps data = s.passScanlines ps data :=
  State.passScanlines_congr (s := s) (t := s.setLine l) rfl rfl ps data

@[simp] theorem startCommand_passScanlines (s : State) (ps : List Nat) (data : List Byte) :
    (startCommand s).passScanlines ps data = s.passScanlines ps data :=
  State.passScanlines_congr (s := s) (t := startCommand s) rfl rfl ps data

/-- The passes one after another. -/
theorem filterPasses_filters (ps : List Nat) (hs : s.filterReady data) (hline : s.atLine k pos)
    (hn : pos + (ps.map fun p => (s.dims p).2 * s.passLine p).sum ≤ data.length) :
    (filterPasses ps s).Filters s k (s.passScanlines ps (data.drop pos)) fun _ => True := by
  induction ps generalizing s k pos with
  | nil => exact .nil trivial
  | cons p rest ih =>
    rw [List.map_cons, List.sum_cons] at hn
    have hfirst := filterRows_filters (s := beginPass p s) (s.dims p).2 0 ⟨hs.input, hs.config, hs.strategy⟩
      (atRow_beginPass p hs.config hline) (by omega)
    refine Res.Filters.bind (hfirst.of_work (s := s)) fun t ht hnext => ?_
    rw [length_scanlines, List.drop_drop, ← State.passScanlines_congr ht.dims ht.bitsPerPixel]
    refine ih (ht.filterReady hs) hnext ?_
    simp only [State.passLine, ht.dims, ht.bitsPerPixel] at hn ⊢
    omega

/-! ### The command -/

theorem State.effectiveStrategy_le_four (h : s.strategy ≤ 4) : s.effectiveStrategy ≤ 4 := by
  unfold State.effectiveStrategy
  split_ifs
  · exact Nat.zero_le 4
  · exact h

/-- After its checks FILTER filters the scanlines of all passes. -/
theorem filterCommand_filters (himg : s.imageLegal) (hstrat : s.strategy ≤ 4) (hdata : s.inputIs data)
    (hraw : s.inLen.toNat = s.rawLen) (haux : s.effectiveStrategy = 4 → s.auxLen.toNat = s.lineCount) :
    ∃ x : Res Unit, filterCommand s = x.bind (fun _ u => .ok () (complete u)) ∧
      x.Filters s 0 (s.passScanlines s.usedPasses data) fun _ => True := by
  have hconfig : filterConfigError true s = none :=
    (filterConfigError_of_imageLegal himg).trans (if_neg (by omega))
  have hlengths : lengthsOk true s = true := by
    simp only [lengthsOk, if_true, Bool.and_eq_true, Bool.or_eq_true, decide_eq_true_eq]
    exact ⟨hraw, (Decidable.em (s.effectiveStrategy = 4)).elim (fun h => .inr (haux h)) .inl⟩
  have hfilters := filterPasses_filters (s := s.setLine { s.work.line with pos := 0, line := 0 }) (k := 0) (pos := 0)
    s.usedPasses ⟨hdata, hconfig, State.effectiveStrategy_le_four hstrat⟩ ⟨rfl, rfl⟩
    (by rw [Nat.zero_add, Memory.bytes_length hdata]; exact hraw.ge)
  rw [setLine_passScanlines, List.drop_zero] at hfilters
  refine ⟨_, ?_, hfilters.of_work (s := s)⟩
  rw [filterCommand, hconfig, hlengths]
  rfl

end

end Sys2Proof.Machine
end

section
open Sys2Proof Sys2Proof.Machine

/-- Settles O50: the scanlines are filtered one after another, up to the first that is not possible. -/
theorem filterCommandCompletes : Obligations.FilterCommandCompletes := by
  intro s data hs himg hstrat hdata hraw haux lines bw
  have hcount : lines.length = s.lineCount := s.length_passScanlines s.usedPasses data
  have hbytes : bytesOfFirst lines.length lines = s.filtLen :=
    State.bytesOfFirst_passScanlines (by rw [Memory.bytes_length hdata]; exact hraw.ge)
  obtain ⟨x, hrule, hx⟩ := filterCommand_filters (s := startCommand s) himg hstrat hdata hraw haux
  rw [startCommand_passScanlines] at hx
  change x.Filters (startCommand s) 0 lines _ at hx
  refine ⟨hcount, fun hlegal hroom => ?_, fun i b h4 hi hlegal hread hb hroom => ?_, fun i hi hlegal hfull => ?_⟩
  · obtain ⟨u, types, rfl, hu, -, hfilt⟩ := hx.room
      (fun j hj h4 => by rw [Nat.zero_add]; exact hlegal h4 j (hj.trans_eq hcount))
      (by rw [startCommand_outLen, hbytes]; exact (Nat.zero_add _).trans_le hroom)
    obtain ⟨hnext, hdone⟩ := onCommand_completes hs hrule hu
    obtain ⟨hlen, hall⟩ := State.bytes_of_appended rfl hfilt.out
    refine ⟨_, types, hnext, hdone, hfilt.count.trans hcount, fun k l hl => ?_, ?_, ?_, hu.crcReg, hu.adlerValue⟩
    · have hpick := hfilt.picks k l hl
      rw [Nat.zero_add] at hpick
      exact hpick
    · have hout := hfilt.outLen
      rw [startCommand_outLen, hbytes] at hout
      exact hout.trans (Nat.zero_add _)
    · rw [complete_outLen, hlen]
      exact hall
  · obtain ⟨u, rfl, hu⟩ := hx.illegal i b h4 (hi.trans_eq hcount.symm)
      (fun j hj => by rw [Nat.zero_add]; exact hlegal j hj) (by rw [Nat.zero_add]; exact hread) hb
      ((Nat.zero_add _).trans_le hroom)
    exact onCommand_raises hs hrule hu
  · obtain ⟨u, rfl, hu⟩ := hx.full (Nat.zero_le _) i (hi.trans_eq hcount.symm)
      (fun j hj h4 => by rw [Nat.zero_add]; exact hlegal h4 j hj) (hfull.trans_eq (Nat.zero_add _).symm)
    exact onCommand_raises hs hrule hu

end

section

/-! SUPPORT. What an instruction leaves unchanged: a stream element writes nothing outside `State.engineFrame`, a
command nothing of the host's side. -/

namespace Sys2Proof.Machine

/-! ### The states an operation ends in -/

theorem State.engineFrame.trans {s t u : State} (h : s.engineFrame t) (h' : t.engineFrame u) : s.engineFrame u := by
  unfold State.engineFrame at h h'
  rw [h] at h'
  exact h'

theorem State.hostSide.refl (s : State) : s.hostSide s :=
  ⟨rfl, rfl, rfl, rfl, rfl, rfl, rfl, rfl, rfl, rfl, rfl, rfl, rfl, rfl, rfl⟩

theorem State.engineFrame.hostSide {s t : State} (h : s.engineFrame t) : s.hostSide t := by
  rw [h]
  exact .refl s

/-- Whether the operation goes well or raises, `P` holds of the state it ends in. -/
inductive Res.EndsIn {α : Type} (P : State → Prop) : Res α → Prop where
  | ok {a : α} {t : State} (h : P t) : EndsIn P (.ok a t)
  | raise {k : ErrKind} {t : State} (h : P t) : EndsIn P (.raise k t)
  | refuse {r : Refusal} : EndsIn P (.refuse r)

/-- From `s` the operation writes what a stream element may write, and nothing else. -/
abbrev Res.Framed {α : Type} (s : State) (x : Res α) : Prop := x.EndsIn s.engineFrame

theorem Res.EndsIn.mono {α : Type} {P Q : State → Prop} {x : Res α} (h : x.EndsIn P) (hPQ : ∀ t, P t → Q t) :
    x.EndsIn Q := by
  cases h with
  | ok h => exact .ok (hPQ _ h)
  | raise h => exact .raise (hPQ _ h)
  | refuse => exact .refuse

/-- Of a sequence each half has to be framed; the first one may start from a state `u` whose working state has been set
before, which `rfl` shows to be in the frame. -/
theorem Res.EndsIn.bind {α β : Type} {s u : State} {x : Res α} {f : α → State → Res β} (hx : x.Framed u)
    (hf : ∀ a t, (f a t).Framed t) (hu : s.engineFrame u := by exact rfl) : (x.bind f).Framed s := by
  cases hx with
  | ok h => exact (hf _ _).mono fun _ => (hu.trans h).trans
  | raise h => exact .raise (hu.trans h)
  | refuse => exact .refuse

/-- The step's next state is one the operation ends in, or a raise from there. -/
theorem Res.EndsIn.of_finish {P : State → Prop} {x : Res Unit} {t : State} (hx : x.EndsIn P)
    (hraise : ∀ k u, P u → P (raiseError k u)) (h : x.finish = .next t) : P t := by
  cases hx with
  | ok hu => exact Host.Outcome.next.inj h ▸ hu
  | raise hu => exact Host.Outcome.next.inj h ▸ hraise _ _ hu
  | refuse => cases h

/-! ### Bits, bytes and blocks -/

theorem readBits_framed (n : Nat) (s : State) : (readBits n s).Framed s := by
  unfold readBits
  split
  · exact .raise rfl
  · split
    · exact .ok rfl
    · exact .refuse

theorem readInBytes_framed (k : ErrKind) (a n : Nat) (s : State) : (readInBytes k a n s).Framed s := by
  unfold readInBytes
  split
  · exact .raise rfl
  · split
    · exact .ok rfl
    · exact .refuse

theorem readAllIn_framed (s : State) : (readAllIn s).Framed s := by
  unfold readAllIn
  split
  · exact .ok rfl
  · exact .refuse

theorem readAllOut_framed (s : State) : (readAllOut s).Framed s := by
  unfold readAllOut
  split
  · exact .ok rfl
  · exact .refuse

theorem readHistory_framed (dist : Nat) (s : State) : (readHistory dist s).Framed s := by
  unfold readHistory
  split
  · exact .ok rfl
  · exact .refuse

theorem appendOut_framed (b : Byte) (s : State) : (appendOut b s).Framed s := by
  unfold appendOut
  split
  · exact .raise rfl
  · exact .ok rfl

theorem appendAll_framed (bs : List Byte) (s : State) : (appendAll bs s).Framed s := by
  obtain ⟨m, n, h⟩ | ⟨m, n, h⟩ := appendAll_cases bs s
  · rw [h]; exact .ok rfl
  · rw [h]; exact .raise rfl

theorem copyStored_framed (n k : Nat) (s : State) : (copyStored n k s).Framed s := by
  induction n generalizing k s with
  | zero => exact .ok rfl
  | succ n ih =>
    unfold copyStored
    split
    · exact .refuse
    · exact (appendOut_framed _ s).bind fun _ t => ih _ t

theorem copyMatch_framed (n dist : Nat) (s : State) : (copyMatch n dist s).Framed s := by
  induction n generalizing s with
  | zero => exact .ok rfl
  | succ n ih => exact (readHistory_framed dist s).bind fun b t => (appendOut_framed b t).bind fun _ u => ih u

theorem engineFrame_endBlock (s : State) : s.engineFrame (endBlock s) := by
  rw [endBlock_frame]
  rfl

theorem storedBlock_framed (s : State) : (storedBlock s).Framed s := by
  refine (readBits_framed 16 (byteAlign s)).bind fun len t => ?_
  refine (readBits_framed 16 (t.setRegs _)).bind fun nlen u => ?_
  dsimp only
  split_ifs
  · exact .raise rfl
  · exact .raise rfl
  · exact (copyStored_framed _ _ (u.setRegs _)).bind fun _ v => .ok (engineFrame_endBlock (v.setBitpos _))

/-! ### The code-length sequence -/

theorem readClLengths_framed (order acc : List Nat) (s : State) : (readClLengths order acc s).Framed s := by
  induction order generalizing acc s with
  | nil => exact .ok rfl
  | cons c rest ih => exact (readBits_framed 3 s).bind fun v t => ih _ t

theorem dynHeader_framed (s : State) : (dynHeader s).Framed s := by
  refine (readBits_framed 5 s).bind fun a t => ?_
  refine (readBits_framed 5 (t.setRegs _)).bind fun b u => ?_
  refine (readBits_framed 4 (u.setRegs _)).bind fun c v => ?_
  refine (readClLengths_framed _ _ (v.setRegs _)).bind fun lens w => ?_
  split
  · exact .raise rfl
  · exact .ok rfl

theorem buildTables_framed (s : State) : (buildTables s).Framed s := by
  unfold buildTables
  dsimp only
  split_ifs
  · exact .raise rfl
  · exact .raise rfl
  · exact .raise rfl
  · exact .ok rfl

theorem nextLength_framed (s : State) : (nextLength s).Framed s := by
  unfold nextLength
  split
  · exact .ok rfl
  · exact buildTables_framed s

theorem repeatLengths_framed (v n : Nat) (s : State) : (repeatLengths v n s).Framed s := by
  unfold repeatLengths
  split
  · exact .raise rfl
  · exact nextLength_framed (putLengths v n s)

/-! ### The symbol loop and the zlib framing -/

theorem engineFrame_recordItem (i : LzItem) (s : State) (r : RunState) :
    s.engineFrame ((recordItem i s).setRun r) := by
  rw [recordItem_frame]
  rfl

theorem literal_framed (b : Byte) (s : State) : (literal b s).Framed s :=
  (appendOut_framed b s).bind fun _ t => .ok (engineFrame_recordItem (.lit b) t _)

theorem lengthSymbol_framed (sym : Nat) (s : State) : (lengthSymbol sym s).Framed s :=
  (readBits_framed _ s).bind fun _ _ => .ok rfl

theorem distSymbol_framed (sym : Nat) (s : State) : (distSymbol sym s).Framed s := by
  refine (readBits_framed _ s).bind fun x t => ?_
  dsimp only
  split
  · exact .raise rfl
  · exact (copyMatch_framed _ _ (t.setRegs _)).bind fun _ u => .ok (engineFrame_recordItem _ u _)

theorem zlibHeader_framed (v : Nat) (s : State) : (zlibHeader v s).Framed s := by
  unfold zlibHeader
  split
  · exact .ok rfl
  · exact .raise rfl

theorem zlibTrailer_framed (a : Word) (s : State) : (zlibTrailer a s).Framed s := by
  refine (readAllOut_framed s).bind fun out t => ?_
  dsimp only
  split
  · exact .raise rfl
  · exact .ok rfl

/-! ### Scanlines -/

theorem engineFrame_nextLine (s : State) : s.engineFrame (nextLine s) := by
  unfold nextLine
  dsimp only
  split
  · exact rfl
  · split
    · exact rfl
    · exact rfl

theorem unfilterRow_framed (f : Nat) (s : State) : (unfilterRow f s).Framed s :=
  (readInBytes_framed _ _ _ s).bind fun _ t =>
    (appendAll_framed _ (t.setLine _)).bind fun _ u => .ok (engineFrame_nextLine (u.setLine _))

theorem predefinedFilter_framed (s : State) : (predefinedFilter s).Framed s := by
  unfold predefinedFilter
  split
  · exact .refuse
  · split
    · exact .raise rfl
    · exact .ok rfl

theorem chooseFilter_framed (s : State) : (chooseFilter s).Framed s := by
  unfold chooseFilter
  dsimp only
  split_ifs
  · exact .ok rfl
  · exact .ok rfl
  · exact .ok rfl
  · exact .ok rfl
  · exact predefinedFilter_framed s

theorem filterRow_framed (s : State) : (filterRow s).Framed s :=
  (readInBytes_framed _ _ _ s).bind fun _ t =>
    (chooseFilter_framed (t.setLine _)).bind fun _ u => (appendAll_framed _ (u.setRegs _)).bind fun _ _ => .ok rfl

theorem filterRows_framed (n row : Nat) (s : State) : (filterRows n row s).Framed s := by
  induction n generalizing row s with
  | zero => exact .ok rfl
  | succ n ih => exact (filterRow_framed (s.setRegs _)).bind fun _ t => ih _ t

theorem filterPasses_framed (ps : List Nat) (s : State) : (filterPasses ps s).Framed s := by
  induction ps generalizing s with
  | nil => exact .ok rfl
  | cons p rest ih => exact (filterRows_framed _ _ (beginPass p s)).bind fun _ t => ih t

/-! ### Stream elements -/

section
variable {i : Instr} {s t : State}

/-- An element whose meaning is a framed operation stays within the frame. -/
theorem engineFrame_of_exec {x : Res Unit} (he : exec i s = x.finish) (hx : x.Framed s) (h : exec i s = .next t) :
    s.engineFrame t := by
  exact hx.of_finish (fun _ _ hu => hu.trans rfl) (he ▸ h)

theorem execCrep_framed (h : execCrep s = .next t) : s.engineFrame t := by
  unfold execCrep at h
  split at h
  · exact Res.EndsIn.of_finish (x := .raise .invalidTree s) (.raise rfl) (fun _ _ hu => hu.trans rfl) h
  · exact Res.EndsIn.of_finish ((readBits_framed _ s).bind fun _ u => repeatLengths_framed _ _ u)
      (fun _ _ hu => hu.trans rfl) h

/-- Whatever stream element executes, nothing outside the frame changes. -/
theorem engineFrame_of_element (hf : i.format ≠ .cmdw) (h : exec i s = .next t) : s.engineFrame t := by
  cases i with
  | zhdr | zhdrBadCinfo | zhdrBadFdict | zhdrBadCm0xxx | zhdrBadCm11xx | zhdrBadCm101x | zhdrBadCm1001 =>
    exact engineFrame_of_exec rfl (zlibHeader_framed _ s) h
  | adler32 a => exact engineFrame_of_exec rfl (zlibTrailer_framed a s) h
  | blockStored | blockFixed | blockDynamic =>
    obtain rfl := Host.Outcome.next.inj h
    exact rfl
  | stored => exact engineFrame_of_exec rfl (storedBlock_framed s) h
  | dynhdr => exact engineFrame_of_exec rfl (dynHeader_framed s) h
  | clen c => exact engineFrame_of_exec rfl (nextLength_framed (putLengths c.toNat 1 s)) h
  | crep => exact execCrep_framed h
  | czeroShort | czeroLong =>
    exact engineFrame_of_exec rfl ((readBits_framed _ s).bind fun _ u => repeatLengths_framed _ _ u) h
  | lit b => exact engineFrame_of_exec rfl (literal_framed b s) h
  | eob => exact Host.Outcome.next.inj h ▸ engineFrame_endBlock s
  | len257 | len258 | len259 | len260 | len261 | len262 | len263 | len264 | len265 | len266 | len267 | len268 | len269
  | len270 | len271 | len272 | len273 | len274 | len275 | len276 | len277 | len278 | len279 | len280 | len281 | len282
  | len283 | len284 | len285 =>
    refine engineFrame_of_exec rfl ?_ h
    exact lengthSymbol_framed _ s
  | dist0 | dist1 | dist2 | dist3 | dist4 | dist5 | dist6 | dist7 | dist8 | dist9 | dist10 | dist11 | dist12 | dist13
  | dist14 | dist15 | dist16 | dist17 | dist18 | dist19 | dist20 | dist21 | dist22 | dist23 | dist24 | dist25 | dist26
  | dist27 | dist28 | dist29 =>
    refine engineFrame_of_exec rfl ?_ h
    exact distSymbol_framed _ s
  | filtNone | filtSub | filtUp | filtAverage | filtPaeth => exact engineFrame_of_exec rfl (unfilterRow_framed _ s) h
  | blockReserved | llIllegal | distIllegal | filtIllegal5or7 | filtIllegal6 | filtIllegal8to15 | filtIllegal16to31
  | filtIllegal32to63 | filtIllegal64to127 | filtIllegal128to255 =>
    obtain rfl := Host.Outcome.next.inj h
    exact rfl
  | _ => exact absurd rfl hf

end

/-! ### Commands -/

theorem deflateBody_framed (data : List Byte) (s : State) : (deflateBody data s).Framed s :=
  (appendAll_framed _ (s.setEnc _)).mono fun _ h => h

theorem deflateCommand_framed (s : State) : (deflateCommand s).Framed s := by
  unfold deflateCommand
  split
  · exact .raise rfl
  · exact (readAllIn_framed s).bind fun data t => (deflateBody_framed data t).bind fun _ _ => .ok rfl

theorem zlibCompressCommand_framed (s : State) : (zlibCompressCommand s).Framed s := by
  unfold zlibCompressCommand
  split
  · exact .raise rfl
  · exact (readAllIn_framed s).bind fun data t => (appendAll_framed _ t).bind fun _ u =>
      (deflateBody_framed data u).bind fun _ v => (appendAll_framed _ (v.setRegs _)).bind fun _ _ => .ok rfl

theorem filterCommand_framed (s : State) : (filterCommand s).Framed s := by
  unfold filterCommand
  split
  · exact .raise rfl
  · split
    · exact (filterPasses_framed _ (s.setLine _)).bind fun _ _ => .ok rfl
    · exact .raise rfl

theorem unfilterCommand_framed (s : State) : (unfilterCommand s).Framed s := by
  unfold unfilterCommand
  split
  · exact .raise rfl
  · split
    · split
      · exact .ok rfl
      · exact .ok rfl
    · exact .raise rfl

theorem zlibCommand_framed (f : Framing) (s : State) : (zlibCommand f s).Framed s := by
  unfold zlibCommand
  split
  · exact .raise rfl
  · exact .ok rfl

/-! ### What the host owns -/

theorem crcCommand_hostSide (s : State) : (crcCommand s).EndsIn s.hostSide := by
  unfold crcCommand readAllIn
  split
  · exact .ok (.refl s)
  · exact .refuse

theorem adlerCommand_hostSide (s : State) : (adlerCommand s).EndsIn s.hostSide := by
  unfold adlerCommand readAllIn
  split
  · exact .ok (.refl s)
  · exact .refuse

section
variable {i : Instr} {s t : State} {rule : State → Res Unit}

/-- A command whose rule keeps the host's side keeps it: an ignored command changes nothing, and the clean state differs
in the working state and the results only. -/
theorem hostSide_of_command (he : exec i s = onCommand rule s) (hrule : ∀ u, (rule u).EndsIn u.hostSide)
    (h : exec i s = .next t) : s.hostSide t := by
  obtain rfl | hfin := onCommand_eq_next (he ▸ h)
  · exact .refl t
  · exact (hrule (startCommand s)).of_finish (fun _ _ hu => hu) hfin

theorem hostSide_of_framed (he : exec i s = onCommand rule s) (hrule : ∀ u, (rule u).Framed u)
    (h : exec i s = .next t) : s.hostSide t :=
  hostSide_of_command he (fun u => (hrule u).mono fun _ => State.engineFrame.hostSide) h

/-- Whatever command executes, the host's side does not change. -/
theorem hostSide_of_cmdw (hf : i.format = .cmdw) (h : exec i s = .next t) : s.hostSide t := by
  cases i with
  | nop => exact hostSide_of_framed (rule := fun s => .ok () (complete s)) rfl (fun _ => .ok rfl) h
  | inflate => exact hostSide_of_framed (rule := inflateCommand) rfl (fun _ => .ok rfl) h
  | zlibDecompress | zlibInfo => exact hostSide_of_framed rfl (zlibCommand_framed _) h
  | deflate => exact hostSide_of_framed rfl deflateCommand_framed h
  | zlibCompress => exact hostSide_of_framed rfl zlibCompressCommand_framed h
  | crcInit =>
    exact hostSide_of_command (rule := fun s => .ok () (complete (s.setCrc 0xFFFFFFFF#32))) rfl
      (fun s => .ok (.refl s)) h
  | crcUpdate => exact hostSide_of_command rfl crcCommand_hostSide h
  | adlerInit =>
    exact hostSide_of_command (rule := fun s => .ok () (complete (s.setAdler 1#16 0#16))) rfl
      (fun s => .ok (.refl s)) h
  | adlerUpdate => exact hostSide_of_command rfl adlerCommand_hostSide h
  | filter => exact hostSide_of_framed rfl filterCommand_framed h
  | unfilter => exact hostSide_of_framed rfl unfilterCommand_framed h
  | _ => cases hf <;> exact hostSide_of_framed (rule := badCommand) rfl (fun _ => .raise rfl) h

end

end Sys2Proof.Machine
end

section
open Sys2Proof Sys2Proof.Machine

/-- Settles O55: a stream element stays within its frame, a command within its results. -/
theorem nothingChangesTheHostSide : Obligations.NothingChangesTheHostSide := by
  intro i s t h
  by_cases hf : i.format = .cmdw
  · exact hostSide_of_cmdw hf h
  · exact (engineFrame_of_element hf h).hostSide

end

section

/-! SUPPORT. The error codes (60_exceptions.md R372). `openErrCode` counts from 1 and passes over each of the source's
codes in turn; passing over a number also keeps the smaller ones passed over before. -/

namespace Sys2Proof.Machine

/-- One of `openErrCode`'s turns: the numbers from `v` on move up by one, so that none of them is `v`. -/
def passOver (v c : Nat) : Nat := if v ≤ c then c + 1 else c

theorem passOver_ne (v c : Nat) : passOver v c ≠ v := by
  unfold passOver; split <;> omega

theorem passOver_ne_of_lt {u v c : Nat} (h : c ≠ u) (huv : u < v) : passOver v c ≠ u := by
  unfold passOver; split <;> omega

theorem passOver_le (v c : Nat) : passOver v c ≤ c + 1 := by
  unfold passOver; split <;> omega

/-- The number `openErrCode` gives as a word. -/
def openErrNumber (n : Nat) : Nat := passOver 90 (passOver 60 (passOver 58 (passOver 57 (n % (2 ^ 32 - 5) + 1))))

theorem openErrCode_eq (n : Nat) : openErrCode n = BitVec.ofNat 32 (openErrNumber n) := rfl

theorem openErrNumber_notMem (n : Nat) : openErrNumber n ∉ [0, 57, 58, 60, 90] := by
  have h0 : openErrNumber n ≠ 0 := by
    iterate 4 refine passOver_ne_of_lt ?_ (by decide)
    exact Nat.succ_ne_zero _
  have h57 : openErrNumber n ≠ 57 := by
    iterate 3 refine passOver_ne_of_lt ?_ (by decide)
    exact passOver_ne 57 _
  have h58 : openErrNumber n ≠ 58 := by
    iterate 2 refine passOver_ne_of_lt ?_ (by decide)
    exact passOver_ne 58 _
  have h60 : openErrNumber n ≠ 60 := passOver_ne_of_lt (passOver_ne 60 _) (by decide)
  have h90 : openErrNumber n ≠ 90 := passOver_ne 90 _
  simp [h0, h57, h58, h60, h90]

/-- The first number is at most 2^32 - 5, and each of the four turns adds at most 1. -/
theorem openErrNumber_lt (n : Nat) : openErrNumber n < 2 ^ 32 := by
  have hc : n % (2 ^ 32 - 5) < 2 ^ 32 - 5 := Nat.mod_lt n (by decide)
  have h57 := passOver_le 57 (n % (2 ^ 32 - 5) + 1)
  have h58 := passOver_le 58 (passOver 57 (n % (2 ^ 32 - 5) + 1))
  have h60 := passOver_le 60 (passOver 58 (passOver 57 (n % (2 ^ 32 - 5) + 1)))
  have h90 : openErrNumber n ≤ _ := passOver_le 90 _
  omega

theorem openErrCode_toNat (n : Nat) : (openErrCode n).toNat = openErrNumber n := by
  rw [openErrCode_eq, BitVec.toNat_ofNat, Nat.mod_eq_of_lt (openErrNumber_lt n)]

theorem openErrCode_ne {c : Word} (n : Nat) (hc : c.toNat ∈ [0, 57, 58, 60, 90]) : openErrCode n ≠ c := by
  rintro rfl
  exact openErrNumber_notMem n (openErrCode_toNat n ▸ hc)

theorem errcodeOf_eq_open {k : ErrKind} (hcrc : k ≠ .badCrc) (hadler : k ≠ .badAdler)
    (hwindow : k ≠ .invalidWindowSize) (hpower : k ≠ .powerOfTwoRequired) :
    errcodeOf k = openErrCode (Config.errNumber k) := by
  cases k with
  | badCrc => exact absurd rfl hcrc
  | badAdler => exact absurd rfl hadler
  | invalidWindowSize => exact absurd rfl hwindow
  | powerOfTwoRequired => exact absurd rfl hpower
  | _ => rfl

end Sys2Proof.Machine
end

section
open Sys2Proof Sys2Proof.Machine

/-- Settles O27: a kind without a source code has an open one, which passes over 0 and the four. -/
theorem errorCodes : Obligations.ErrorCodes := by
  refine ⟨rfl, rfl, rfl, rfl, fun k hcrc hadler hwindow hpower => ?_, complete_errCode⟩
  rw [errcodeOf_eq_open hcrc hadler hwindow hpower]
  have hne {c : Word} := openErrCode_ne (c := c) (Config.errNumber k)
  exact ⟨hne (by decide), hne (by decide), hne (by decide), hne (by decide), hne (by decide)⟩

end

section

/-! SUPPORT. A running command terminates (70_reset_and_hazards.md R430). Every element moves the bit reader, or
UNFILTER's position in IN, on by at least one; only the zlib header and the trailer do not, the first and the last element
of their command. `State.stepsLeft` counts what is left, and every element of the engine lowers it. -/

namespace Sys2Proof.Machine

/-! ### How many elements are left -/

/-- How many elements a command that decodes `p` next can still take. -/
def State.elementsLeft (s : State) (p : Phase) : Nat :=
  match p with
  | .zhdr => 8 * s.inLen.toNat + 2
  | .blk | .stored | .dynhdr | .clsym | .llsym | .dsym => remainingBits s + 2
  | .trailer => 1
  | .scanline => s.inLen.toNat - s.work.line.pos + 1

/-- How many elements the running command can still take; none when no command runs. -/
def State.stepsLeft (s : State) : Nat :=
  match s.run with
  | .busy p => s.elementsLeft p
  | .idle | .done | .error => 0

/-- How many elements can still follow an element of format `f` that was fetched and is about to execute. A STORED or
DYNHDR reads its first bits only then; a CMDW is never fetched. -/
def State.leftAfter (s : State) (f : Format) : Nat :=
  match f with
  | .zhdr => 8 * (s.inLen.toNat - 6) + 2
  | .stored | .dynhdr => remainingBits s + 1
  | .blk | .clsym | .llsym | .dsym => remainingBits s + 2
  | .scanline => s.inLen.toNat - s.work.line.pos + 1
  | .ztrl | .cmdw => 0

section
variable {s t : State}

theorem State.elementsLeft_pos (s : State) (p : Phase) : 0 < s.elementsLeft p := by
  cases p <;> exact Nat.succ_pos _

theorem State.stepsLeft_of_busy {p : Phase} (h : s.run = .busy p) : s.stepsLeft = s.elementsLeft p := by
  simp only [State.stepsLeft, h]

/-- Nothing is left exactly when no command runs. -/
theorem State.stepsLeft_eq_zero_iff : s.stepsLeft = 0 ↔ s.isBusy = false := by
  cases hrun : s.run with
  | idle | done | error => simp only [State.stepsLeft, State.isBusy, hrun]
  | busy p =>
    have hpos := s.elementsLeft_pos p
    simp only [State.stepsLeft, State.isBusy, hrun, hpos.ne', Bool.true_eq_false]

/-- The bound of R430: the active input is a part of IN. -/
theorem State.Inv.stepsLeft_le (h : s.Inv) : s.stepsLeft ≤ 8 * s.inLen.toNat + 2 := by
  have hbits (hr : s.readerOk) : remainingBits s + 2 ≤ 8 * s.inLen.toNat + 2 := by
    obtain ⟨hin, -⟩ := hr
    simp only [remainingBits, State.inputBits]
    omega
  cases hrun : s.run with
  | idle | done | error => simp only [State.stepsLeft, hrun, Nat.zero_le]
  | busy p =>
    rw [State.stepsLeft_of_busy hrun]
    have hp := h.phase p hrun
    cases p with
    | zhdr => exact Nat.le_refl _
    | blk | stored | dynhdr => exact hbits hp
    | clsym | llsym | dsym => exact hbits hp.1
    | trailer => exact Nat.succ_le_succ (Nat.zero_le _)
    | scanline =>
      simp only [State.elementsLeft]
      omega

/-! ### The bit reader moves on -/

theorem remainingBits_setBitpos_le {n : Nat} (h : s.work.rd.bitpos ≤ n) :
    remainingBits (s.setBitpos n) ≤ remainingBits s := Nat.sub_le_sub_left h _

theorem remainingBits_byteAlign_le (s : State) : remainingBits (byteAlign s) ≤ remainingBits s :=
  remainingBits_setBitpos_le (by omega)

theorem remainingBits_of_readBits {n v : Nat} (h : readBits n s = .ok v t) :
    remainingBits t + n = remainingBits s := by
  obtain ⟨⟨hle, -⟩, rfl⟩ := readBits_eq_ok h
  simp only [remainingBits, State.setBitpos_inputBits, State.setBitpos_work]
  omega

/-- A symbol takes at least one bit. -/
theorem remainingBits_of_decodeSymbol {T : HuffTable} {v : Nat} (h : decodeSymbol T s = .ok v t) :
    remainingBits t < remainingBits s := by
  obtain ⟨m, hm, -, hle, rfl, -⟩ := decodeFrom_eq_ok h
  simp only [remainingBits, State.setBitpos_inputBits, State.setBitpos_work]
  omega

theorem remainingBits_of_readClLengths {order acc lens : List Nat} (h : readClLengths order acc s = .ok lens t) :
    remainingBits t ≤ remainingBits s := by
  induction order generalizing acc s with
  | nil =>
    obtain ⟨-, rfl⟩ := Res.ok.inj h
    exact Nat.le_refl _
  | cons c rest ih =>
    obtain ⟨v, u, hu, hrest⟩ := Res.bind_eq_ok.mp h
    have := remainingBits_of_readBits hu
    have := ih hrest
    omega

/-! ### What goes well touches OUT only -/

theorem appendOut_eq_ok {b : Byte} (h : appendOut b s = .ok () t) : ∃ m l, t = s.setOut m l := by
  unfold appendOut at h
  split at h <;> cases h
  exact ⟨_, _, rfl⟩

theorem appendAll_eq_ok {bs : List Byte} (h : appendAll bs s = .ok () t) : ∃ m l, t = s.setOut m l := by
  obtain ⟨m, l, hk⟩ | ⟨m, l, hk⟩ := appendAll_cases bs s <;> cases hk.symm.trans h
  exact ⟨m, l, rfl⟩

theorem copyStored_eq_ok {n k : Nat} (h : copyStored n k s = .ok () t) : ∃ m l, t = s.setOut m l := by
  obtain ⟨m, l, hk⟩ | ⟨m, l, hk⟩ | hk := copyStored_cases n k s <;> cases hk.symm.trans h
  exact ⟨m, l, rfl⟩

theorem copyMatch_eq_ok {n dist : Nat} (h : copyMatch n dist s = .ok () t) : ∃ m l, t = s.setOut m l := by
  obtain ⟨m, l, hk⟩ | ⟨m, l, hk⟩ | hk := copyMatch_cases n dist s <;> cases hk.symm.trans h
  exact ⟨m, l, rfl⟩

/-! ### What an operation leaves to do -/

/-- Where the operation goes well, the command can take at most `n` elements more. -/
def Res.Leaves (n : Nat) (x : Res Unit) : Prop := ∀ t, x = .ok () t → t.stepsLeft ≤ n

variable {n : Nat}

theorem Res.Leaves.ok (h : t.stepsLeft ≤ n) : (Res.ok () t).Leaves n := by
  rintro _ ⟨⟩
  exact h

theorem Res.Leaves.raise {k : ErrKind} : (Res.raise k s : Res Unit).Leaves n := by rintro _ ⟨⟩

theorem Res.Leaves.mono {x : Res Unit} {m : Nat} (hx : x.Leaves m) (h : m ≤ n) : x.Leaves n :=
  fun t ht => (hx t ht).trans h

theorem Res.Leaves.bind {α : Type} {x : Res α} {f : α → State → Res Unit}
    (hf : ∀ a u, x = .ok a u → (f a u).Leaves n) : (x.bind f).Leaves n := by
  intro t ht
  obtain ⟨a, u, hu, ht⟩ := Res.bind_eq_ok.mp ht
  exact hf a u hu t ht

/-- The bits an operation reads first are taken from what is left. -/
theorem Res.Leaves.bind_readBits {m : Nat} {f : Nat → State → Res Unit}
    (hf : ∀ v u, remainingBits u + m = remainingBits s → (f v u).Leaves n) : ((readBits m s).bind f).Leaves n :=
  .bind fun v u hu => hf v u (remainingBits_of_readBits hu)

/-- A raise ends the command (R380), so the step leaves no more than the operation does where it goes well. -/
theorem Res.Leaves.of_finish {x : Res Unit} (hx : x.Leaves n) (h : x.finish = .next t) : t.stepsLeft ≤ n := by
  obtain hok | ⟨k, u, -, rfl⟩ := Res.finish_eq_next.mp h
  · exact hx t hok
  · exact Nat.zero_le n

/-! ### Blocks -/

/-- The next header, the trailer or nothing follows a block. -/
theorem stepsLeft_endBlock_le (s : State) : (endBlock s).stepsLeft ≤ remainingBits s + 2 := by
  unfold endBlock
  extract_lets u
  have hu : remainingBits u = remainingBits s := by
    simp only [u]
    split <;> rfl
  rw [← hu]
  split_ifs
  · exact Nat.le_refl _
  · exact Nat.zero_le _
  · exact Nat.succ_le_succ (Nat.zero_le _)

theorem storedBlock_leaves (s : State) : (storedBlock s).Leaves (remainingBits s + 1) := by
  refine .bind_readBits fun len u hu => .bind_readBits fun nlen w hw => ?_
  dsimp only
  split_ifs
  · exact .raise
  · exact .raise
  · refine .bind fun _ x hx => .ok ((stepsLeft_endBlock_le _).trans ?_)
    obtain ⟨m, l, rfl⟩ := copyStored_eq_ok hx
    have halign := remainingBits_byteAlign_le s
    have hlen : remainingBits w + 16 = remainingBits u := hw
    have hbody : remainingBits (w.setBitpos (w.work.rd.bitpos + 8 * len)) ≤ remainingBits w :=
      remainingBits_setBitpos_le (Nat.le_add_right _ _)
    change remainingBits (w.setBitpos (w.work.rd.bitpos + 8 * len)) + 2 ≤ remainingBits s + 1
    omega

/-! ### The code-length sequence -/

theorem dynHeader_leaves (s : State) : (dynHeader s).Leaves (remainingBits s + 1) := by
  refine .bind_readBits fun a u hu => .bind_readBits fun b w hw => .bind_readBits fun c x hx => ?_
  refine .bind fun lens y hy => ?_
  split
  · exact .raise
  · refine .ok ?_
    have hdist : remainingBits w + 5 = remainingBits u := hw
    have hclen : remainingBits x + 4 = remainingBits w := hx
    have hlens : remainingBits y ≤ remainingBits x := (remainingBits_of_readClLengths hy :)
    change remainingBits y + 2 ≤ remainingBits s + 1
    omega

theorem buildTables_leaves (s : State) : (buildTables s).Leaves (remainingBits s + 2) := by
  unfold buildTables
  dsimp only
  split_ifs
  · exact .raise
  · exact .raise
  · exact .raise
  · exact .ok (Nat.le_refl _)

theorem nextLength_leaves (s : State) : (nextLength s).Leaves (remainingBits s + 2) := by
  unfold nextLength
  split
  · exact .ok (Nat.le_refl _)
  · exact buildTables_leaves s

theorem repeatLengths_leaves (v n : Nat) (s : State) : (repeatLengths v n s).Leaves (remainingBits s + 2) := by
  unfold repeatLengths
  split
  · exact .raise
  · exact nextLength_leaves (putLengths v n s)

/-- A repeat element: extra bits, then lengths. -/
theorem readBits_repeatLengths_leaves (bits base : Nat) (v : State → Nat) (s : State) :
    ((readBits bits s).bind fun e s => repeatLengths (v s) (base + e) s).Leaves (remainingBits s + 2) :=
  .bind_readBits fun _ u hu => (repeatLengths_leaves _ _ u).mono (by omega)

theorem stepsLeft_of_execCrep (h : execCrep s = .next t) : t.stepsLeft ≤ remainingBits s + 2 := by
  unfold execCrep at h
  split at h
  · exact Res.Leaves.of_finish (x := .raise .invalidTree s) .raise h
  · exact (readBits_repeatLengths_leaves _ 3 _ s).of_finish h

/-! ### The symbol loop and the zlib framing -/

theorem literal_leaves (b : Byte) (s : State) : (literal b s).Leaves (remainingBits s + 2) := by
  refine .bind fun _ u hu => .ok ?_
  obtain ⟨m, l, rfl⟩ := appendOut_eq_ok hu
  rw [recordItem_frame]
  exact Nat.le_refl _

theorem lengthSymbol_leaves (sym : Nat) (s : State) : (lengthSymbol sym s).Leaves (remainingBits s + 2) := by
  refine .bind_readBits fun x u hu => .ok ?_
  change remainingBits u + 2 ≤ remainingBits s + 2
  omega

theorem distSymbol_leaves (sym : Nat) (s : State) : (distSymbol sym s).Leaves (remainingBits s + 2) := by
  refine .bind_readBits fun x u hu => ?_
  dsimp only
  split
  · exact .raise
  · refine .bind fun _ w hw => .ok ?_
    obtain ⟨m, l, rfl⟩ := copyMatch_eq_ok hw
    rw [recordItem_frame]
    change remainingBits u + 2 ≤ remainingBits s + 2
    omega

/-- The stream lies between the header and the trailer (R242). -/
theorem zlibHeader_leaves (v : Nat) (s : State) : (zlibHeader v s).Leaves (8 * (s.inLen.toNat - 6) + 2) := by
  unfold zlibHeader
  split
  · exact .ok (Nat.le_refl _)
  · exact .raise

theorem zlibTrailer_leaves (a : Word) (s : State) : (zlibTrailer a s).Leaves 0 := by
  refine .bind fun out u _ => ?_
  dsimp only
  split
  · exact .raise
  · exact .ok (Nat.le_refl _)

/-! ### Scanlines -/

/-- Going on to the next scanline moves nothing in IN. -/
theorem stepsLeft_nextLine_le (s : State) : (nextLine s).stepsLeft ≤ s.inLen.toNat - s.work.line.pos + 1 := by
  unfold nextLine
  dsimp only
  split
  · exact Nat.le_refl _
  · split
    · exact Nat.zero_le _
    · exact Nat.le_refl _

theorem unfilterRow_leaves (f : Nat) (s : State) :
    (unfilterRow f s).Leaves (s.inLen.toNat - s.work.line.pos + 1) := by
  refine .bind fun out u hu => .bind fun _ w hw => .ok ((stepsLeft_nextLine_le _).trans ?_)
  obtain ⟨rfl, -⟩ := readInBytes_eq_ok hu
  obtain ⟨m, l, rfl⟩ := appendAll_eq_ok hw
  exact Nat.succ_le_succ (Nat.sub_le_sub_left (Nat.le_add_right _ _) _)

/-! ### Elements -/

theorem stepsLeft_of_exec {i : Instr} {x : Res Unit} (he : exec i s = x.finish) (hx : x.Leaves n)
    (h : exec i s = .next t) : t.stepsLeft ≤ n := hx.of_finish (he ▸ h)

/-- What an element that was fetched leaves to do. -/
theorem stepsLeft_of_element {i : Instr} (hf : i.format ≠ .cmdw) (h : exec i s = .next t) :
    t.stepsLeft ≤ s.leftAfter i.format := by
  cases i with
  | zhdr | zhdrBadCinfo | zhdrBadFdict | zhdrBadCm0xxx | zhdrBadCm11xx | zhdrBadCm101x | zhdrBadCm1001 =>
    exact stepsLeft_of_exec rfl (zlibHeader_leaves _ s) h
  | adler32 a => exact stepsLeft_of_exec rfl (zlibTrailer_leaves a s) h
  | blockStored | blockFixed | blockDynamic =>
    obtain rfl := Host.Outcome.next.inj h
    exact Nat.le_refl _
  | stored => exact stepsLeft_of_exec rfl (storedBlock_leaves s) h
  | dynhdr => exact stepsLeft_of_exec rfl (dynHeader_leaves s) h
  | clen c => exact stepsLeft_of_exec rfl (nextLength_leaves (putLengths c.toNat 1 s)) h
  | crep => exact stepsLeft_of_execCrep h
  | czeroShort | czeroLong => exact stepsLeft_of_exec rfl (readBits_repeatLengths_leaves _ _ (fun _ => 0) s) h
  | lit b => exact stepsLeft_of_exec rfl (literal_leaves b s) h
  | eob => exact Host.Outcome.next.inj h ▸ stepsLeft_endBlock_le s
  | len257 | len258 | len259 | len260 | len261 | len262 | len263 | len264 | len265 | len266 | len267 | len268 | len269
  | len270 | len271 | len272 | len273 | len274 | len275 | len276 | len277 | len278 | len279 | len280 | len281 | len282
  | len283 | len284 | len285 =>
    refine stepsLeft_of_exec rfl ?_ h
    exact lengthSymbol_leaves _ s
  | dist0 | dist1 | dist2 | dist3 | dist4 | dist5 | dist6 | dist7 | dist8 | dist9 | dist10 | dist11 | dist12 | dist13
  | dist14 | dist15 | dist16 | dist17 | dist18 | dist19 | dist20 | dist21 | dist22 | dist23 | dist24 | dist25 | dist26
  | dist27 | dist28 | dist29 =>
    refine stepsLeft_of_exec rfl ?_ h
    exact distSymbol_leaves _ s
  | filtNone | filtSub | filtUp | filtAverage | filtPaeth => exact stepsLeft_of_exec rfl (unfilterRow_leaves _ s) h
  | blockReserved | llIllegal | distIllegal | filtIllegal5or7 | filtIllegal6 | filtIllegal8to15 | filtIllegal16to31
  | filtIllegal32to63 | filtIllegal64to127 | filtIllegal128to255 =>
    obtain rfl := Host.Outcome.next.inj h
    exact Nat.zero_le _
  | _ => exact absurd rfl hf

/-- Fetching takes at least one bit or byte, or comes before an element that does, or there is nothing behind the
element. -/
theorem leftAfter_lt_of_fetchValue {p : Phase} {v : Nat} (hp : s.phaseOk p) (h : fetchValue p s = .ok v t) :
    t.leftAfter p.format < s.elementsLeft p := by
  cases p with
  | zhdr =>
    obtain ⟨-, h6⟩ := hp
    rw [fetchValue_frame h]
    change 8 * (s.inLen.toNat - 6) + 2 < 8 * s.inLen.toNat + 2
    omega
  | blk =>
    have hlt := remainingBits_of_readBits h
    change remainingBits t + 2 < remainingBits s + 2
    omega
  | stored | dynhdr =>
    obtain ⟨-, rfl⟩ := Res.ok.inj h
    exact Nat.lt_succ_self _
  | clsym => exact Nat.add_lt_add_right (remainingBits_of_decodeSymbol h) 2
  | llsym | dsym =>
    obtain ⟨w, u, hu, hv⟩ := Res.bind_eq_ok.mp h
    obtain ⟨-, rfl⟩ := Res.ok.inj hv
    exact Nat.add_lt_add_right (remainingBits_of_decodeSymbol hu) 2
  | trailer => exact Nat.zero_lt_one
  | scanline =>
    obtain ⟨b, u, hb, hv⟩ := Res.bind_eq_ok.mp h
    obtain ⟨rfl, hlt, -⟩ := readIn_eq_ok hb
    obtain ⟨-, rfl⟩ := Res.ok.inj hv
    change u.inLen.toNat - (u.work.line.pos + 1) + 1 < u.inLen.toNat - u.work.line.pos + 1
    omega

/-- An instruction is of the format it was decoded from. -/
theorem format_of_decode {f : Format} {v : Nat} {i : Instr} (h : decode f v = some i) : i.format = f := by
  obtain ⟨hround, -⟩ := encodeDecode
  cases f with
  | stored | dynhdr => exact Option.some.inj h ▸ rfl
  | _ => exact (Prod.mk.inj (hround _ v i h nofun nofun)).1

/-- A phase's format is never the host's. -/
theorem Phase.format_ne_cmdw (p : Phase) : p.format ≠ .cmdw := by cases p <;> decide

/-- Every element of the engine lowers what is left. -/
theorem stepsLeft_of_engineStep {p : Phase} (hp : s.phaseOk p) (h : engineStep p s = .next t) :
    t.stepsLeft < s.elementsLeft p := by
  obtain ⟨k, u, -, rfl⟩ | ⟨v, u, i, hv, hd, he⟩ := engineStep_eq_next h
  · exact s.elementsLeft_pos p
  · have hformat := format_of_decode hd
    have hle := stepsLeft_of_element (hformat ▸ p.format_ne_cmdw) he
    rw [hformat] at hle
    exact hle.trans_lt (leftAfter_lt_of_fetchValue hp hv)

/-! ### The engine keeps the host's side -/

theorem readIn_framed (k : ErrKind) (a : Nat) (s : State) : (readIn k a s).Framed s := by
  unfold readIn
  split
  · exact .raise rfl
  · split
    · exact .ok rfl
    · exact .refuse

theorem decodeFrom_framed (T : HuffTable) (fuel n c : Nat) (s : State) : (decodeFrom T fuel n c s).Framed s := by
  induction fuel generalizing n c s with
  | zero => exact .raise rfl
  | succ k ih =>
    refine (readBits_framed 1 s).bind fun b u => ?_
    split
    · exact .ok rfl
    · exact ih _ _ u

theorem fetchValue_framed (p : Phase) (s : State) : (fetchValue p s).Framed s := by
  cases p with
  | zhdr => exact (readIn_framed _ 0 s).bind fun _ u => (readIn_framed _ 1 u).bind fun _ _ => .ok rfl
  | blk => exact readBits_framed 3 s
  | stored | dynhdr => exact .ok rfl
  | clsym => exact decodeFrom_framed _ _ _ _ s
  | llsym | dsym => exact (decodeFrom_framed _ _ _ _ s).bind fun _ _ => .ok rfl
  | trailer => exact (readInBytes_framed _ _ 4 s).bind fun _ _ => .ok rfl
  | scanline => exact (readIn_framed _ _ s).bind fun _ _ => .ok rfl

theorem engineFrame_of_engineStep {p : Phase} (h : engineStep p s = .next t) : s.engineFrame t := by
  have hframed := fetchValue_framed p s
  obtain ⟨k, u, hv, rfl⟩ | ⟨v, u, i, hv, hd, he⟩ := engineStep_eq_next h
  · rw [hv] at hframed
    cases hframed with | raise hu => exact hu.trans rfl
  · rw [hv] at hframed
    cases hframed with | ok hu =>
    exact hu.trans (engineFrame_of_element (format_of_decode hd ▸ p.format_ne_cmdw) he)

/-! ### Runs -/

/-- With no action of the host left, a step stays within the frame of a stream element. -/
theorem engineFrame_of_step (hhost : s.host = []) (h : step s = .next t) : s.engineFrame t := by
  rw [step_of_host_nil hhost] at h
  by_cases hb : s.isBusy = true
  · obtain ⟨p, hp⟩ := (State.isBusy_iff s).mp hb
    exact engineFrame_of_engineStep (idleOrEngine_of_busy hp ▸ h)
  · rw [idleOrEngine_of_idle (by simpa using hb)] at h
    obtain rfl := Host.Outcome.next.inj h
    rfl

/-- With no action of the host left, a step takes one from what is left, if anything is. -/
theorem stepsLeft_of_step (hinv : s.Inv) (hhost : s.host = []) (h : step s = .next t) :
    t.stepsLeft ≤ s.stepsLeft - 1 := by
  rw [step_of_host_nil hhost] at h
  by_cases hb : s.isBusy = true
  · obtain ⟨p, hp⟩ := (State.isBusy_iff s).mp hb
    rw [State.stepsLeft_of_busy hp]
    exact Nat.le_pred_of_lt (stepsLeft_of_engineStep (hinv.phase p hp) (idleOrEngine_of_busy hp ▸ h))
  · have hidle : s.isBusy = false := by simpa using hb
    rw [idleOrEngine_of_idle hidle] at h
    obtain rfl := Host.Outcome.next.inj h
    rw [State.stepsLeft_eq_zero_iff.mpr hidle]

/-- As many steps of the engine as are left end the running command. -/
theorem run_ends_of_stepsLeft_le (hinv : s.Inv) (hhost : s.host = []) (hw : s.inputWritten) (hn : s.stepsLeft ≤ n) :
    ∃ t : State, Host.Core.run Sys2Proof.core n s = .next t ∧ t.isBusy = false := by
  induction n generalizing s with
  | zero => exact ⟨s, rfl, State.stepsLeft_eq_zero_iff.mp (Nat.le_zero.mp hn)⟩
  | succ k ih =>
    obtain ⟨t, ht⟩ := engineNeverStops s hinv hhost hw
    have hframe := engineFrame_of_step hhost ht
    have hhost' : t.host = [] := by rw [hframe]; exact hhost
    have hw' : t.inputWritten := by rw [hframe]; exact hw
    have hless := stepsLeft_of_step hinv hhost ht
    obtain ⟨u, hu, hidle⟩ := ih (everyStepKeepsTheInvariant s t hinv ht) hhost' hw' (by omega)
    exact ⟨u, (run_succ_of_step (M := Sys2Proof.core) ht).trans hu, hidle⟩

end

end Sys2Proof.Machine
end

section
open Sys2Proof Sys2Proof.Machine

/-- Settles O60: every step takes one from what is left, which is at most the bound. -/
theorem everyCommandTerminates : Obligations.EveryCommandTerminates := fun _ h hhost hw =>
  run_ends_of_stepsLeft_le h hhost hw h.stepsLeft_le

end

section

/-! SUPPORT. CMD writes (70_reset_and_hazards.md R420, R423): every row of the command format is the CMD write of some
rule; what such a rule keeps of the two running checksums. -/

namespace Sys2Proof.Machine

section
variable {i : Instr} {s t : State} {rule : State → Res Unit}

/-- Every row of the command format is a CMD write of some rule. -/
theorem exists_rule_of_cmdw (hf : i.format = .cmdw) : ∃ rule, ∀ s, exec i s = onCommand rule s := by
  have hd : decodeCmdw i.value = some i := (congrArg (decode · i.value) hf).symm.trans (decode_value i)
  obtain ⟨rule, -, hexec⟩ := safeCommand_of_decodeCmdw hd
  exact ⟨rule, hexec⟩

/-- A CMD write while STATE = BUSY is ignored, whatever the command (R420). -/
theorem exec_of_cmdw_busy (hf : i.format = .cmdw) (hb : s.isBusy = true) : exec i s = .next s := by
  obtain ⟨rule, hexec⟩ := exists_rule_of_cmdw hf
  rw [hexec, onCommand_of_busy hb]

/-- Every word written to CMD while STATE = BUSY is ignored (R420). -/
theorem writeCmd_of_busy (v : Word) (hb : s.isBusy = true) : writeCmd v s = .next s := by
  obtain ⟨i, hd⟩ := Option.isSome_iff_exists.mp (decodeCmdw_isSome.mpr v.isLt)
  rw [writeCmd_of_decode s hd, exec_of_cmdw_busy (format_of_decode (f := .cmdw) hd) hb]

/-- A register written while STATE = BUSY keeps its value (R420). -/
theorem State.writeReg_of_busy (off : Nat) (v : Word) (hb : s.isBusy = true) : s.writeReg off v = s := by
  simp only [State.writeReg, hb, if_true]

/-! ### The running checksums -/

theorem State.engineFrame.crcReg (h : s.engineFrame t) : t.crcReg = s.crcReg := by rw [h]

theorem State.engineFrame.adlerValue (h : s.engineFrame t) : t.adlerValue = s.adlerValue := by
  rw [h]
  rfl

/-- A command keeps a part of the state that its rule keeps, and that neither the start of a command nor a raise
writes. -/
theorem command_keeps {α : Type} (part : State → α) (he : exec i s = onCommand rule s)
    (hrule : ∀ u, (rule u).EndsIn fun w => part w = part u) (h : exec i s = .next t)
    (hstart : part (startCommand s) = part s := by rfl)
    (hraise : ∀ k u, part (raiseError k u) = part u := by intros; rfl) : part t = part s := by
  obtain rfl | hfin := onCommand_eq_next (he ▸ h)
  · rfl
  · exact ((hrule (startCommand s)).of_finish (fun k u hu => (hraise k u).trans hu) hfin).trans hstart

theorem crcCommand_adlerValue (s : State) : (crcCommand s).EndsIn fun u => u.adlerValue = s.adlerValue := by
  unfold crcCommand readAllIn
  split
  · exact .ok rfl
  · exact .refuse

theorem adlerCommand_crcReg (s : State) : (adlerCommand s).EndsIn fun u => u.crcReg = s.crcReg := by
  unfold adlerCommand readAllIn
  split
  · exact .ok rfl
  · exact .refuse

/-- From `s` to `t` only the CRC commands may write CRC_REG, only the Adler commands ADLER_VALUE (R423). -/
def State.checksumsKeptBy (s : State) (i : Instr) (t : State) : Prop :=
  (i ≠ .crcInit → i ≠ .crcUpdate → t.crcReg = s.crcReg) ∧
    (i ≠ .adlerInit → i ≠ .adlerUpdate → t.adlerValue = s.adlerValue)

/-- A command whose rule stays in the frame of a stream element keeps both checksums. -/
theorem checksumsKeptBy_of_framed (he : exec i s = onCommand rule s) (hrule : ∀ u, (rule u).Framed u)
    (h : exec i s = .next t) : s.checksumsKeptBy i t :=
  ⟨fun _ _ => command_keeps State.crcReg he (fun u => (hrule u).mono fun _ hw => hw.crcReg) h,
    fun _ _ => command_keeps State.adlerValue he (fun u => (hrule u).mono fun _ hw => hw.adlerValue) h⟩

/-- The four checksum commands keep the other sum, every other command both. -/
theorem checksumsKeptBy_of_cmdw (hf : i.format = .cmdw) (h : exec i s = .next t) : s.checksumsKeptBy i t := by
  cases i with
  | nop => exact checksumsKeptBy_of_framed (rule := fun s => .ok () (complete s)) rfl (fun _ => .ok rfl) h
  | inflate => exact checksumsKeptBy_of_framed (rule := inflateCommand) rfl (fun _ => .ok rfl) h
  | zlibDecompress | zlibInfo => exact checksumsKeptBy_of_framed rfl (zlibCommand_framed _) h
  | deflate => exact checksumsKeptBy_of_framed rfl deflateCommand_framed h
  | zlibCompress => exact checksumsKeptBy_of_framed rfl zlibCompressCommand_framed h
  | crcInit =>
    exact ⟨fun hinit => absurd rfl hinit, fun _ _ => command_keeps State.adlerValue
      (rule := fun s => .ok () (complete (s.setCrc 0xFFFFFFFF#32))) rfl (fun _ => .ok rfl) h⟩
  | crcUpdate =>
    exact ⟨fun _ hupdate => absurd rfl hupdate,
      fun _ _ => command_keeps State.adlerValue rfl crcCommand_adlerValue h⟩
  | adlerInit =>
    exact ⟨fun _ _ => command_keeps State.crcReg
      (rule := fun s => .ok () (complete (s.setAdler 1#16 0#16))) rfl (fun _ => .ok rfl) h,
      fun hinit => absurd rfl hinit⟩
  | adlerUpdate =>
    exact ⟨fun _ _ => command_keeps State.crcReg rfl adlerCommand_crcReg h, fun _ hupdate => absurd rfl hupdate⟩
  | filter => exact checksumsKeptBy_of_framed rfl filterCommand_framed h
  | unfilter => exact checksumsKeptBy_of_framed rfl unfilterCommand_framed h
  | _ => cases hf <;> exact checksumsKeptBy_of_framed (rule := badCommand) rfl (fun _ => .raise rfl) h

end

end Sys2Proof.Machine
end

section
open Sys2Proof Sys2Proof.Machine

/-- Settles O54: every command is a CMD write, which checks BUSY first and the capacities next. -/
theorem commandsAreAcceptedOnlyWhenLaunchable : Obligations.CommandsAreAcceptedOnlyWhenLaunchable := by
  intro i s hf
  refine ⟨exec_of_cmdw_busy hf, fun hidle hbeyond => ?_⟩
  obtain ⟨rule, hexec⟩ := exists_rule_of_cmdw hf
  rw [hexec, onCommand_of_beyond hidle hbeyond]

/-- Settles O56: a stream element's frame holds neither checksum; of the commands four write one. -/
theorem checksumsAreWrittenOnlyByTheirCommands : Obligations.ChecksumsAreWrittenOnlyByTheirCommands := by
  intro i s t h
  by_cases hf : i.format = .cmdw
  · exact checksumsKeptBy_of_cmdw hf h
  · have hframe := engineFrame_of_element hf h
    exact ⟨fun _ _ => hframe.crcReg, fun _ _ => hframe.adlerValue⟩

/-- Settles O3: a write at offset 0 is a CMD write, any other a register write. -/
theorem writesWhileBusyAreIgnored : Obligations.WritesWhileBusyAreIgnored := by
  intro s off v rest hb hhost
  have hbusy : (s.setHost rest).isBusy = true := hb
  rw [step_of_hostOp hhost nofun, hostStep]
  by_cases hoff : off = 0
  · rw [if_pos hoff, writeCmd_of_busy v hbusy]
  · rw [if_neg hoff, State.writeReg_of_busy off v hbusy]

end
